-- ==== Sys2Proof/Word.lean ====
section
/-! DEFINITION. Word.lean: the words and index ranges of the JC-360 (0-3, R1, R167), and the two plain
table operations every later file reads and writes fixed tables with. -/

namespace Sys2Proof

/-- One byte of a frame (R150, R167). -/
abbrev Byte := BitVec 8

/-- A stamp of the part's 32-bit stamp counter ("Stamps and age", 00_scope.md). -/
abbrev Stamp := BitVec 32

/-- Carousels C0 to C5 (Table 0-3). -/
abbrev CarouselId := Fin 6

/-- Carrier numbers 0 to 39; those from N on name no carrier in use (R1). -/
abbrev CarrierId := Fin 40

/-- Bays B0 to B3 of a carrier. -/
abbrev BayId := Fin 4

/-- Pick stations S0 to S3. -/
abbrev StationId := Fin 4

/-- Link ports L0 to L11 (Table 0-1). -/
abbrev PortId := Fin 12

/-- Consolidation lanes 0 to 31. -/
abbrev LaneId := Fin 32

/-- Task tickets 0 to 255 (R61). -/
abbrev Ticket := Fin 256

/-- Discrepancy entries D0 to D31 (R135). -/
abbrev EntryId := Fin 32

/-- Timing profiles 0 to 3 (Table 10-2). -/
abbrev ProfileId := Fin 4

/-- The entry of a fixed table at an index of its range. -/
def look {α : Type} {n : Nat} (v : Vector α n) (i : Fin n) : α := v[i.val]

/-- A fixed table with the entry at one index replaced. -/
def put {α : Type} {n : Nat} (v : Vector α n) (i : Fin n) (x : α) : Vector α n := v.set i.val x

end Sys2Proof
end

