-- ==== Sys2Proof/Config.lean ====
section
/-! DEFINITION. Config.lean: what the manual leaves open (free values), and the fixed capacities of the part
(Table 0-3). -/

namespace Sys2Proof.Config

/-- FREE VALUE (log entry 2). The manual orders two stamps by their difference modulo 2^32 and promises a
correct order only while they are less than 2^31 apart ("Stamps and age"); which of two stamps exactly 2^31 apart
is the older it does not say. Nothing constrains this constant. -/
opaque halfwayOlder : Stamp → Stamp → Bool

/-- FREE VALUE (log entry 35). The entry total of READ_FACE is one byte (R169), and a face list of 256 entries does not
fit it; which byte is then sent the manual does not say. Nothing constrains this constant. -/
opaque longFaceTotal : Nat → Byte

/-- The notice queue of a port holds up to 8 frames (R157). -/
def noticeQueuePlaces : Nat := 8

/-- No call is passed over more than 8 times (R81). -/
def ageLimit : Nat := 8

/-- At most 15 tyres in a bay, whatever its height (R4). -/
def stackCap : Nat := 15

/-- An order holds at most 8 lines (Table 4-3). -/
def linesPerOrder : Nat := 8

/-- A lane's stray count stays at 15 (R124). -/
def strayCap : Nat := 15

/-- A FACE notice lists at most 18 tasks (R85). -/
def faceListed : Nat := 18

/-- A READ_FACE response carries at most 20 face entries (R169). -/
def faceEntriesPerRead : Nat := 20

/-- FIND_LOTS returns the oldest eight weeks (R19). -/
def weeksReturned : Nat := 8

/-- The longest payload of a frame: a length byte of 100 less code and tag (R150). -/
def maxPayload : Nat := 98

/-- A frame's mark byte (R150). -/
def mark : Byte := 0xA5

end Sys2Proof.Config
end

