-- ==== Sys2Proof/Syntax.lean ====
section
/-! DEFINITION. Syntax.lean: the commands of the JC-360 (one constructor of `Instr` per row of
spec/opcode_table.json), the frames they arrive in, and the typed requests the dispatcher hands to the blocks. -/

namespace Sys2Proof

/-! ## Enumerated fields (Table 11-6) -/

/-- The outcome mode of an audit scope (Table 5-1). -/
inductive AuditMode
  | adjust
  | review
  deriving DecidableEq, Repr

/-- The repetition of a sweep (R132). -/
inductive Repetition
  | once
  | rolling
  deriving DecidableEq, Repr

/-- The interleave of a sweep (R132). -/
inductive Interleave
  | steal
  | block
  deriving DecidableEq, Repr

/-- The level a guard line reads as: low is CLOSED, high is OPEN (R105). -/
inductive GuardLevel
  | closed
  | opened
  deriving DecidableEq, Repr

/-- A bay named by carousel, carrier and bay (R2). -/
structure BayRef where
  carousel : CarouselId
  carrier : CarrierId
  bay : BayId
  deriving DecidableEq, Repr

/-- The four lot fields of a bay (Table 1-2, R6). -/
structure Lot where
  article : Nat
  week : Nat
  unitMass : Nat
  width : Nat
  deriving DecidableEq, Repr

/-! ## Frames -/

/-- What a frame carries inside its envelope: code, tag and payload (Table 11-1). -/
structure Frame where
  code : Byte
  tag : Byte
  payload : List Byte
  deriving DecidableEq, Repr

/-- How a frame in assembly ends, other than by a gap (Table of R152). -/
inductive FrameEnd
  | good (f : Frame)
  | framingError
  | badLength
  | parityError
  | checkError
  deriving DecidableEq, Repr

/-- Where a request frame arrives and the tag its master chose (R155). -/
structure Header where
  port : PortId
  tag : Byte
  deriving DecidableEq, Repr

/-- One line of ORDER_LINES as it is sent: article 3, quantity 1, set size 1, minimum week 2 bytes (11.2). -/
structure LineField where
  article : BitVec 24
  quantity : Byte
  setSize : Byte
  minWeek : BitVec 16
  deriving DecidableEq, Repr

/-! ## The commands -/

/-- One constructor per row of spec/opcode_table.json. A request row is the arrival, whole and good, of that
request's frame on a port: its operands are the port, the tag and the payload fields in the widths of Table 11-2.
The other rows are events on the input lines, in the links, and of the timers. -/
inductive Instr
  -- Requests of L0 (Table 11-2, 01h to 1Dh)
  | configure (h : Header) (item index : Byte) (value : BitVec 32)
  | enrol (h : Header) (carousel : Byte)
  | withdraw (h : Header) (carousel : Byte)
  | hold (h : Header) (carousel on : Byte)
  | readStatus (h : Header)
  | restart (h : Header)
  | readCarousel (h : Header) (carousel : Byte)
  | loadBay (h : Header) (carousel carrier bay : Byte) (article : BitVec 24) (week unitMass width : BitVec 16)
      (count : Byte)
  | readBay (h : Header) (carousel carrier bay : Byte)
  | readCarrier (h : Header) (carousel carrier : Byte)
  | findLots (h : Header) (article : BitVec 24)
  | putRequest (h : Header) (article : BitVec 24) (week : BitVec 16) (count : Byte) (unitMass width : BitVec 16)
      (preferred : Byte)
  | putCancel (h : Header) (ticket : Byte)
  | orderOpen (h : Header) (lane : Byte) (ref : BitVec 32) (urgent : Byte)
  | orderLines (h : Header) (lane final : Byte) (lines : List LineField)
  | orderCancel (h : Header) (lane : Byte)
  | readLane (h : Header) (lane part : Byte)
  | auditCarrier (h : Header) (carousel carrier mode : Byte)
  | auditSweep (h : Header) (carousel first n repetition interleave mode : Byte)
  | auditStop (h : Header) (carousel : Byte)
  | readDiscrepancy (h : Header) (id : Byte)
  | discAck (h : Header) (id : Byte)
  | resolve (h : Header) (id decision : Byte) (article : BitVec 24) (week unitMass width : BitVec 16)
  -- Requests of the stations (20h to 25h)
  | pickConfirm (h : Header) (ticket k : Byte)
  | putConfirm (h : Header) (ticket j : Byte)
  | auditCount (h : Header) (carousel bay counted : Byte)
  | faceRelease (h : Header) (carousel carrier : Byte)
  | resume (h : Header) (carousel : Byte)
  | readFace (h : Header) (carousel first : Byte)
  -- Reports of the drives (30h to 34h)
  | position (h : Header) (offset : Byte)
  | arrived (h : Header) (offset : Byte)
  | stopped (h : Header) (offset : Byte)
  | fault (h : Header) (cause : Byte)
  | ready (h : Header)
  -- Requests of the lane controller (38h to 3Bh)
  | arrival (h : Header) (lane : Byte) (article : BitVec 24) (week : BitVec 16)
  | laneRelease (h : Header) (lane : Byte)
  | laneEmpty (h : Header) (lane : Byte)
  | strayClear (h : Header) (lane n : Byte)
  -- Input lines
  | guardChange (carousel : CarouselId) (level : GuardLevel)
  | restartInput
  | restartInputRelease
  | warmRestart
  | powerOn
  -- Link events
  | frameReceived (port : PortId) (ending : FrameEnd)
  | frameGapExpiry (port : PortId)
  | frameSent (port : PortId)
  | holdInput (port : PortId) (asserted : Bool)
  -- Timers
  | orderOpenTimerExpiry (lane : LaneId)
  | moveTimerExpiry (carousel : CarouselId)
  | stopTimerExpiry (carousel : CarouselId)
  -- Characters, and the power-on reset input
  | characterReceived (port : PortId) (value : Byte) (parityError framingError : Bool)
  | powerOnReset
  deriving DecidableEq, Repr

/-! ## Request codes and typed requests -/

/-- The request codes of Table 11-2. -/
inductive RequestCode
  | configure | enrol | withdraw | hold | readStatus | restart | readCarousel | loadBay | readBay | readCarrier
  | findLots | putRequest | putCancel | orderOpen | orderLines | orderCancel | readLane | auditCarrier | auditSweep
  | auditStop | readDiscrepancy | discAck | resolve | pickConfirm | putConfirm | auditCount | faceRelease | resume
  | readFace | position | arrived | stopped | fault | ready | arrival | laneRelease | laneEmpty | strayClear
  deriving DecidableEq, Repr

/-- A configuration item with the index it names (Tables 10-1, 10-2 and 11-6). -/
inductive ConfigItem
  | carrierCount (c : CarouselId)
  | bayHeight (c : CarouselId)
  | payloadLimit (c : CarouselId)
  | putLimit (c : CarouselId)
  | hardLimit (c : CarouselId)
  | timingProfile (c : CarouselId)
  | station (c : CarouselId)
  | baseTime (p : ProfileId)
  | stepTime (p : ProfileId)
  | permits
  | laneCapacity
  | orderOpenTime
  | shortPickMode
  deriving DecidableEq, Repr

/-- A decision of RESOLVE (R147). -/
inductive Decision
  | keepBook
  | acceptCount
  | assign (lot : Lot)
  | clear
  deriving DecidableEq, Repr

/-- One line of ORDER_LINES within its domains (Table 4-3, check 1). -/
structure LineSpec where
  article : Nat
  quantity : Nat
  setSize : Nat
  minWeek : Option Nat
  deriving DecidableEq, Repr

/-- A request whose length and field domains the dispatcher has found good (R154, checks 3 and 4). -/
inductive Request
  | configure (item : ConfigItem) (value : Nat)
  | enrol (c : CarouselId)
  | withdraw (c : CarouselId)
  | hold (c : CarouselId) (on : Bool)
  | readStatus
  | restart
  | readCarousel (c : CarouselId)
  | loadBay (r : BayRef) (lot : Option Lot) (count : Nat)
  | readBay (r : BayRef)
  | readCarrier (c : CarouselId) (k : CarrierId)
  | findLots (article : Nat)
  | putRequest (lot : Lot) (count : Nat) (preferred : Option CarouselId)
  | putCancel (t : Ticket)
  | orderOpen (l : LaneId) (ref : BitVec 32) (urgent : Bool)
  | orderLines (l : LaneId) (final : Bool) (lines : List LineSpec)
  | orderCancel (l : LaneId)
  | readLane (l : LaneId) (part : Nat)
  | auditCarrier (c : CarouselId) (k : CarrierId) (mode : AuditMode)
  | auditSweep (c : CarouselId) (first : CarrierId) (n : Nat) (repetition : Repetition) (interleave : Interleave)
      (mode : AuditMode)
  | auditStop (c : CarouselId)
  | readDiscrepancy (id : Option EntryId)
  | discAck (id : EntryId)
  | resolve (id : EntryId) (decision : Decision)
  | pickConfirm (t : Ticket) (k : Nat)
  | putConfirm (t : Ticket) (j : Nat)
  | auditCount (c : CarouselId) (b : BayId) (counted : Nat)
  | faceRelease (c : CarouselId) (k : CarrierId)
  | resume (c : CarouselId)
  | readFace (c : CarouselId) (first : Nat)
  | position (offset : Nat)
  | arrived (offset : Nat)
  | stopped (offset : Nat)
  | fault (code : Nat)
  | ready
  | arrival (l : LaneId) (article week : Nat)
  | laneRelease (l : LaneId)
  | laneEmpty (l : LaneId)
  | strayClear (l : LaneId) (n : Nat)
  deriving DecidableEq, Repr

end Sys2Proof
end

