-- ==== Sys2Proof/WellFormed.lean ====
section
/-! DEFINITION. WellFormed.lean: the commands that can stand on the part's links and lines. The field widths of
Table 11-2 and the port, carousel and lane ranges are in the types of `Instr`; what is left is that a frame fits its
length byte (R150). -/

namespace Sys2Proof

/-- A frame's payload fits a length byte of at most 100 (R150). -/
def Frame.wellFormed (f : Frame) : Bool := f.payload.length ≤ Config.maxPayload

/-- Only a good frame carries a payload to be checked. -/
def FrameEnd.wellFormed : FrameEnd → Bool
  | .good f => f.wellFormed
  | .framingError | .badLength | .parityError | .checkError => true

/-- ORDER_LINES of more than 13 lines does not fit a frame: 3 + 7 × 13 = 94 (R150, Table 11-2). A frame of 5 to 13
lines can be sent and is refused by the dispatcher with BAD_FORM (R168), so it is well formed. -/
def linesFit (lines : List LineField) : Bool := 3 + 7 * lines.length ≤ Config.maxPayload

/-- A command that can reach the part. -/
def Instr.wellFormed : Instr → Bool
  | .orderLines _ _ _ lines => linesFit lines
  | .frameReceived _ ending => ending.wellFormed
  | .configure _ _ _ _ | .enrol _ _ | .withdraw _ _ | .hold _ _ _ | .readStatus _ | .restart _
  | .readCarousel _ _ | .loadBay _ _ _ _ _ _ _ _ _ | .readBay _ _ _ _ | .readCarrier _ _ _ | .findLots _ _
  | .putRequest _ _ _ _ _ _ _ | .putCancel _ _ | .orderOpen _ _ _ _ | .orderCancel _ _ | .readLane _ _ _
  | .auditCarrier _ _ _ _ | .auditSweep _ _ _ _ _ _ _ | .auditStop _ _ | .readDiscrepancy _ _ | .discAck _ _
  | .resolve _ _ _ _ _ _ _ | .pickConfirm _ _ _ | .putConfirm _ _ _ | .auditCount _ _ _ _ | .faceRelease _ _ _
  | .resume _ _ | .readFace _ _ _ | .position _ _ | .arrived _ _ | .stopped _ _ | .fault _ _ | .ready _
  | .arrival _ _ _ _ | .laneRelease _ _ | .laneEmpty _ _ | .strayClear _ _ _ | .guardChange _ _ | .restartInput
  | .restartInputRelease | .warmRestart | .powerOn | .frameGapExpiry _ | .frameSent _ | .holdInput _ _
  | .orderOpenTimerExpiry _ | .moveTimerExpiry _ | .stopTimerExpiry _ | .characterReceived _ _ _ _
  | .powerOnReset => true

end Sys2Proof
end

