-- ==== Sys2Proof/Decode.lean ====
section
/-! DEFINITION. Decode.lean: reading a table word (the table gives no row bits), and reading and writing request
frames: field bytes (R167), request codes (Table 11-2), lengths (R168) and field domains (R154, check 4). -/

namespace Sys2Proof

/-! ## Table words -/

/-- No row of spec/opcode_table.json gives bits (every row's "fields" is empty and none has "fixed"), so no word
spells a command (log entry 1). -/
def decodeTableWord (_nbits _w : Nat) : Option Instr := none

/-! ## Field bytes -/

/-- The `k` bytes of an unsigned field, high byte first (R167). -/
def bytesOf : (k n : Nat) → List Byte
  | 0, _ => []
  | k + 1, n => BitVec.ofNat 8 (n / 256 ^ k) :: bytesOf k n

/-- The number that bytes sent high byte first stand for (R167). -/
def natOf : List Byte → Nat
  | [] => 0
  | b :: rest => b.toNat * 256 ^ rest.length + natOf rest

/-! ## Request codes -/

/-- The code byte of a request (Table 11-2). -/
def RequestCode.byte : RequestCode → Byte
  | .configure => 0x01 | .enrol => 0x02 | .withdraw => 0x03 | .hold => 0x04 | .readStatus => 0x05
  | .restart => 0x06 | .readCarousel => 0x07 | .loadBay => 0x08 | .readBay => 0x09 | .readCarrier => 0x0A
  | .findLots => 0x0B | .putRequest => 0x0C | .putCancel => 0x0D | .orderOpen => 0x10 | .orderLines => 0x11
  | .orderCancel => 0x12 | .readLane => 0x13 | .auditCarrier => 0x18 | .auditSweep => 0x19 | .auditStop => 0x1A
  | .readDiscrepancy => 0x1B | .discAck => 0x1C | .resolve => 0x1D | .pickConfirm => 0x20 | .putConfirm => 0x21
  | .auditCount => 0x22 | .faceRelease => 0x23 | .resume => 0x24 | .readFace => 0x25 | .position => 0x30
  | .arrived => 0x31 | .stopped => 0x32 | .fault => 0x33 | .ready => 0x34 | .arrival => 0x38
  | .laneRelease => 0x39 | .laneEmpty => 0x3A | .strayClear => 0x3B

/-- Every request code of Table 11-2. -/
def RequestCode.all : List RequestCode :=
  [.configure, .enrol, .withdraw, .hold, .readStatus, .restart, .readCarousel, .loadBay, .readBay, .readCarrier,
   .findLots, .putRequest, .putCancel, .orderOpen, .orderLines, .orderCancel, .readLane, .auditCarrier, .auditSweep,
   .auditStop, .readDiscrepancy, .discAck, .resolve, .pickConfirm, .putConfirm, .auditCount, .faceRelease, .resume,
   .readFace, .position, .arrived, .stopped, .fault, .ready, .arrival, .laneRelease, .laneEmpty, .strayClear]

/-- The request a code byte names, if it names one. -/
def RequestCode.ofByte (b : Byte) : Option RequestCode := RequestCode.all.find? fun c => c.byte == b

/-- The four roles of the ports (Table 0-1). -/
def isStockPort (p : PortId) : Bool := p.val == 0
def isStationPort (p : PortId) : Bool := 1 ≤ p.val && p.val ≤ 4
def isDrivePort (p : PortId) : Bool := 5 ≤ p.val && p.val ≤ 10
def isLanePort (p : PortId) : Bool := p.val == 11

/-- The requests allowed for the role of a port (Table 9-2). -/
def RequestCode.allowedOn (p : PortId) : RequestCode → Bool
  | .pickConfirm | .putConfirm | .auditCount | .faceRelease | .resume | .readFace => isStationPort p
  | .position | .arrived | .stopped | .fault | .ready => isDrivePort p
  | .arrival | .laneRelease | .laneEmpty | .strayClear => isLanePort p
  | .readLane => isStockPort p || isLanePort p
  | .configure | .enrol | .withdraw | .hold | .readStatus | .restart | .readCarousel | .loadBay | .readBay
  | .readCarrier | .findLots | .putRequest | .putCancel | .orderOpen | .orderLines | .orderCancel | .auditCarrier
  | .auditSweep | .auditStop | .readDiscrepancy | .discAck | .resolve => isStockPort p

/-! ## Field domains -/

/-- A byte as an index below `n`, or nothing: a number outside the domain. -/
def index? (n : Nat) (b : Byte) : Option (Fin n) := if h : b.toNat < n then some ⟨b.toNat, h⟩ else none

/-- A number within its inclusive range, or nothing. -/
def within? (lo hi n : Nat) : Option Nat := if lo ≤ n ∧ n ≤ hi then some n else none

/-- A 0/1 field. -/
def flag? (b : Byte) : Option Bool := if b = 0 then some false else if b = 1 then some true else none

def mode? (b : Byte) : Option AuditMode := (flag? b).map fun r => if r then .review else .adjust
def repetition? (b : Byte) : Option Repetition := (flag? b).map fun r => if r then .rolling else .once
def interleave? (b : Byte) : Option Interleave := (flag? b).map fun r => if r then .block else .steal

/-- FFh names none; any other value is an index or outside the domain (R168). -/
def optionalIndex? (n : Nat) (b : Byte) : Option (Option (Fin n)) :=
  if b = 0xFF then some none else (index? n b).map some

/-- Article numbers 1 to 999 999. -/
def article? (n : Nat) : Option Nat := within? 1 999999 n

/-- The lot fields within the ranges of Table 1-2. -/
def lot? (article week unitMass width : Nat) : Option Lot := do
  let a ← article? article
  let w ← within? 1 4095 week
  let m ← within? 1 1000 unitMass
  let d ← within? 100 500 width
  pure ⟨a, w, m, d⟩

/-- A bay or carrier name within the domains of R2. -/
def bayRef? (c k b : Byte) : Option BayRef := do
  let c ← index? 6 c
  let k ← index? 40 k
  let b ← index? 4 b
  pure ⟨c, k, b⟩

/-- Item code and index of CONFIGURE (Table 10-3, check 1; Table 11-6). Global items ignore the index. -/
def item? (item index : Byte) : Option ConfigItem :=
  match item.toNat with
  | 0x01 => (index? 6 index).map .carrierCount
  | 0x02 => (index? 6 index).map .bayHeight
  | 0x03 => (index? 6 index).map .payloadLimit
  | 0x04 => (index? 6 index).map .putLimit
  | 0x05 => (index? 6 index).map .hardLimit
  | 0x06 => (index? 6 index).map .timingProfile
  | 0x07 => (index? 6 index).map .station
  | 0x10 => (index? 4 index).map .baseTime
  | 0x11 => (index? 4 index).map .stepTime
  | 0x12 => some .permits
  | 0x13 => some .laneCapacity
  | 0x14 => some .orderOpenTime
  | 0x15 => some .shortPickMode
  | _ => none

/-- LOAD_BAY's lot and count (Table 1-5, check 1; R15): article 0 only with count 0, and then the other lot fields
are not checked. -/
def load? (article week unitMass width count : Nat) : Option (Option Lot × Nat) := do
  let n ← within? 0 15 count
  if article = 0 then
    if n = 0 then pure (none, 0) else none
  else
    let lot ← lot? article week unitMass width
    pure (some lot, n)

/-- A line of ORDER_LINES (Table 4-3, checks 1 and 2); a minimum week of 0 is none (11.2). -/
def lineSpec? (article quantity setSize minWeek : Nat) : Option LineSpec := do
  let a ← article? article
  let q ← within? 1 16 quantity
  let w ← within? 0 4095 minWeek
  if (setSize = 1 ∨ setSize = 2 ∨ setSize = 4) ∧ q % setSize = 0 then
    pure ⟨a, q, setSize, if w = 0 then none else some w⟩
  else none

/-- The lines of an ORDER_LINES payload, 7 bytes each. -/
def lineSpecs? : List Byte → Option (List LineSpec)
  | [] => some []
  | a2 :: a1 :: a0 :: q :: z :: w1 :: w0 :: rest => do
    let l ← lineSpec? (natOf [a2, a1, a0]) q.toNat z.toNat (natOf [w1, w0])
    let ls ← lineSpecs? rest
    pure (l :: ls)
  | _ => none

/-- The decision of RESOLVE; the lot fields are read only for ASSIGN (11.2). -/
def decision? (d : Byte) (article week unitMass width : Nat) : Option Decision :=
  match d.toNat with
  | 0 => some .keepBook
  | 1 => some .acceptCount
  | 2 => (lot? article week unitMass width).map .assign
  | 3 => some .clear
  | _ => none

/-- AUDIT_SWEEP's first two checks (Table 8-2): the domains, and no ROLLING with BLOCK. -/
def sweep? (c first n repetition interleave mode : Byte) : Option Request := do
  let c ← index? 6 c
  let k ← index? 40 first
  let n ← within? 1 40 n.toNat
  let r ← repetition? repetition
  let i ← interleave? interleave
  let m ← mode? mode
  if r = .rolling ∧ i = .block then none else pure (.auditSweep c k n r i m)

/-- The ORDER_LINES payload: the line count is read first and fixes the length (R168). -/
def orderLines? (lane count final : Byte) (rest : List Byte) : Option Request := do
  let n ← within? 1 4 count.toNat
  if rest.length = 7 * n then
    let l ← index? 32 lane
    let f ← flag? final
    let ls ← lineSpecs? rest
    pure (.orderLines l f ls)
  else none

/-- Checks 3 and 4 of the dispatcher (R154): the payload's length by Table 11-2 and R168, and every field in the
domain that the request's rule lists among its first checks. Nothing means BAD_FORM. -/
def parseRequest : RequestCode → List Byte → Option Request
  | .configure, [i, x, v3, v2, v1, v0] => (item? i x).map fun it => .configure it (natOf [v3, v2, v1, v0])
  | .enrol, [c] => (index? 6 c).map .enrol
  | .withdraw, [c] => (index? 6 c).map .withdraw
  | .hold, [c, on] => do pure (.hold (← index? 6 c) (← flag? on))
  | .readStatus, [] => some .readStatus
  | .restart, [] => some .restart
  | .readCarousel, [c] => (index? 6 c).map .readCarousel
  | .loadBay, [c, k, b, a2, a1, a0, w1, w0, m1, m0, d1, d0, n] => do
    let r ← bayRef? c k b
    let l ← load? (natOf [a2, a1, a0]) (natOf [w1, w0]) (natOf [m1, m0]) (natOf [d1, d0]) n.toNat
    pure (.loadBay r l.1 l.2)
  | .readBay, [c, k, b] => (bayRef? c k b).map .readBay
  | .readCarrier, [c, k] => do pure (.readCarrier (← index? 6 c) (← index? 40 k))
  | .findLots, [a2, a1, a0] => (article? (natOf [a2, a1, a0])).map .findLots
  | .putRequest, [a2, a1, a0, w1, w0, n, m1, m0, d1, d0, pc] => do
    let lot ← lot? (natOf [a2, a1, a0]) (natOf [w1, w0]) (natOf [m1, m0]) (natOf [d1, d0])
    let n ← within? 1 15 n.toNat
    pure (.putRequest lot n (← optionalIndex? 6 pc))
  | .putCancel, [t] => (index? 256 t).map .putCancel
  | .orderOpen, [l, r3, r2, r1, r0, u] => do
    let l ← index? 32 l
    let u ← flag? u
    pure (.orderOpen l (BitVec.ofNat 32 (natOf [r3, r2, r1, r0])) u)
  | .orderLines, l :: n :: f :: rest => orderLines? l n f rest
  | .orderCancel, [l] => (index? 32 l).map .orderCancel
  | .readLane, [l, p] => do pure (.readLane (← index? 32 l) (← within? 0 8 p.toNat))
  | .auditCarrier, [c, k, m] => do pure (.auditCarrier (← index? 6 c) (← index? 40 k) (← mode? m))
  | .auditSweep, [c, f, n, r, i, m] => sweep? c f n r i m
  | .auditStop, [c] => (index? 6 c).map .auditStop
  | .readDiscrepancy, [i] => (optionalIndex? 32 i).map .readDiscrepancy
  | .discAck, [i] => (index? 32 i).map .discAck
  | .resolve, [i, d, a2, a1, a0, w1, w0, m1, m0, d1, d0] => do
    let i ← index? 32 i
    let d ← decision? d (natOf [a2, a1, a0]) (natOf [w1, w0]) (natOf [m1, m0]) (natOf [d1, d0])
    pure (.resolve i d)
  | .pickConfirm, [t, k] => do pure (.pickConfirm (← index? 256 t) (← within? 0 15 k.toNat))
  | .putConfirm, [t, j] => (index? 256 t).map fun t => .putConfirm t j.toNat
  | .auditCount, [c, b, n] => do pure (.auditCount (← index? 6 c) (← index? 4 b) (← within? 0 15 n.toNat))
  | .faceRelease, [c, k] => do pure (.faceRelease (← index? 6 c) (← index? 40 k))
  | .resume, [c] => (index? 6 c).map .resume
  | .readFace, [c, f] => (index? 6 c).map fun c => .readFace c f.toNat
  | .position, [o] => (within? 0 39 o.toNat).map .position
  | .arrived, [o] => (within? 0 39 o.toNat).map .arrived
  | .stopped, [o] => (within? 0 39 o.toNat).map .stopped
  | .fault, [x] => (within? 1 15 x.toNat).map .fault
  | .ready, [] => some .ready
  | .arrival, [l, a2, a1, a0, w1, w0] => do
    let l ← index? 32 l
    let a ← article? (natOf [a2, a1, a0])
    pure (.arrival l a (← within? 1 4095 (natOf [w1, w0])))
  | .laneRelease, [l] => (index? 32 l).map .laneRelease
  | .laneEmpty, [l] => (index? 32 l).map .laneEmpty
  | .strayClear, [l, n] => do pure (.strayClear (← index? 32 l) (← within? 1 15 n.toNat))
  | _, _ => none

/-! ## Writing request payloads (the other direction of Table 11-2) -/

def field {w : Nat} (k : Nat) (v : BitVec w) : List Byte := bytesOf k v.toNat

/-- One line of ORDER_LINES, 7 bytes. -/
def LineField.bytes (l : LineField) : List Byte :=
  field 3 l.article ++ [l.quantity, l.setSize] ++ field 2 l.minWeek

/-- The ORDER_LINES payload: lane, line count, final mark, then the lines. -/
def orderLinesPayload (lane final : Byte) (lines : List LineField) : List Byte :=
  [lane, BitVec.ofNat 8 lines.length, final] ++ lines.flatMap LineField.bytes

/-- The code and payload of a request's frame, for the rows that are requests; nothing for an event. -/
def Instr.request? : Instr → Option (Header × RequestCode × List Byte)
  | .configure h item index value => some (h, .configure, [item, index] ++ field 4 value)
  | .enrol h c => some (h, .enrol, [c])
  | .withdraw h c => some (h, .withdraw, [c])
  | .hold h c on => some (h, .hold, [c, on])
  | .readStatus h => some (h, .readStatus, [])
  | .restart h => some (h, .restart, [])
  | .readCarousel h c => some (h, .readCarousel, [c])
  | .loadBay h c k b a w m d n =>
    some (h, .loadBay, [c, k, b] ++ field 3 a ++ field 2 w ++ field 2 m ++ field 2 d ++ [n])
  | .readBay h c k b => some (h, .readBay, [c, k, b])
  | .readCarrier h c k => some (h, .readCarrier, [c, k])
  | .findLots h a => some (h, .findLots, field 3 a)
  | .putRequest h a w n m d p =>
    some (h, .putRequest, field 3 a ++ field 2 w ++ [n] ++ field 2 m ++ field 2 d ++ [p])
  | .putCancel h t => some (h, .putCancel, [t])
  | .orderOpen h l r u => some (h, .orderOpen, [l] ++ field 4 r ++ [u])
  | .orderLines h l f ls => some (h, .orderLines, orderLinesPayload l f ls)
  | .orderCancel h l => some (h, .orderCancel, [l])
  | .readLane h l p => some (h, .readLane, [l, p])
  | .auditCarrier h c k m => some (h, .auditCarrier, [c, k, m])
  | .auditSweep h c f n r i m => some (h, .auditSweep, [c, f, n, r, i, m])
  | .auditStop h c => some (h, .auditStop, [c])
  | .readDiscrepancy h i => some (h, .readDiscrepancy, [i])
  | .discAck h i => some (h, .discAck, [i])
  | .resolve h i e a w m d => some (h, .resolve, [i, e] ++ field 3 a ++ field 2 w ++ field 2 m ++ field 2 d)
  | .pickConfirm h t k => some (h, .pickConfirm, [t, k])
  | .putConfirm h t j => some (h, .putConfirm, [t, j])
  | .auditCount h c b n => some (h, .auditCount, [c, b, n])
  | .faceRelease h c k => some (h, .faceRelease, [c, k])
  | .resume h c => some (h, .resume, [c])
  | .readFace h c f => some (h, .readFace, [c, f])
  | .position h o => some (h, .position, [o])
  | .arrived h o => some (h, .arrived, [o])
  | .stopped h o => some (h, .stopped, [o])
  | .fault h x => some (h, .fault, [x])
  | .ready h => some (h, .ready, [])
  | .arrival h l a w => some (h, .arrival, [l] ++ field 3 a ++ field 2 w)
  | .laneRelease h l => some (h, .laneRelease, [l])
  | .laneEmpty h l => some (h, .laneEmpty, [l])
  | .strayClear h l n => some (h, .strayClear, [l, n])
  | .guardChange _ _ | .restartInput | .restartInputRelease | .warmRestart | .powerOn | .frameReceived _ _
  | .frameGapExpiry _ | .frameSent _ | .holdInput _ _ | .orderOpenTimerExpiry _ | .moveTimerExpiry _
  | .stopTimerExpiry _ | .characterReceived _ _ _ _ | .powerOnReset => none

/-! ## The envelope (R150, Table 11-1) -/

/-- One bit step of the CRC: generator x^16 + x^12 + x^5 + 1, most significant bit first. -/
def crcBit (r : BitVec 16) : BitVec 16 := if r.msb then (r <<< 1) ^^^ 0x1021 else r <<< 1

/-- The CRC register after one more byte. -/
def crcByte (r : BitVec 16) (b : Byte) : BitVec 16 :=
  crcBit (crcBit (crcBit (crcBit (crcBit (crcBit (crcBit (crcBit (r ^^^ (b.setWidth 16 <<< 8)))))))))

/-- The CRC of the bytes from the length byte through the last payload byte, from FFFFh, with no reflection and no
final inversion (R150). -/
def crc (bytes : List Byte) : BitVec 16 := bytes.foldl crcByte 0xFFFF

/-- Length byte, code, tag and payload: the bytes the CRC covers. -/
def Frame.covered (f : Frame) : List Byte :=
  BitVec.ofNat 8 (f.payload.length + 2) :: f.code :: f.tag :: f.payload

/-- A frame as it stands on the line (Table 11-1). -/
def Frame.wire (f : Frame) : List Byte :=
  Config.mark :: (f.covered ++ bytesOf 2 (crc f.covered).toNat)

end Sys2Proof
end

