-- ==== Sys2Proof/Machine/State.lean ====
section
/-! DEFINITION. Machine/State.lean: every piece of state the spec gives the JC-360, as plain data, and the state after
power-on. -/

namespace Sys2Proof.Machine

/-! ## Outcomes -/

/-- The spec gives the part no stop: every request is answered and every event is taken or has no effect (R154,
R155). No step ends in a fault, so this type has no constructor. -/
inductive Fault
  deriving DecidableEq, Repr

/-- Why a step may have no meaning. -/
inductive Refusal
  /-- Raised by an arm of `exec` whose command has no meaning in the model yet; safe. No arm raises it. -/
  | notModelled (mnemonic : String)
  deriving DecidableEq, Repr

/-- The outcome codes of responses (Table 11-4). -/
inductive ReplyCode
  | done | doneClamped | recount | busy | deniedRole | badForm | badRange | wrongState | noSuch | noSpace | noRoom
  | notAtFace | withdrawnTask
  deriving DecidableEq, Repr

/-! ## The stock map (chapter 1) -/

/-- A bay record (Table 1-2). The lot is absent exactly while the bay is EMPTY (article 0, R3). -/
structure Bay where
  lot : Option Lot
  count : Nat
  reserved : Nat
  incoming : Nat
  auditHold : Bool
  disputed : Bool
  deriving DecidableEq, Repr

/-- A carrier record: its four bays and its planned payload in 0.1 kg (R7). -/
structure Carrier where
  bays : Vector Bay 4
  payload : Nat
  deriving DecidableEq, Repr

/-! ## Balance (chapter 2) -/

/-- The balance unit's record of a carousel: 20 entry places, of which 0 to N/2−1 are the half-profile (R25). -/
structure Balance where
  entries : Vector Int 20
  peak : Nat
  peakOffset : Nat
  overweight : Bool
  deriving DecidableEq, Repr

/-! ## Motion (chapter 6) -/

/-- The motion states (Figure 6-1). -/
inductive MotionState
  | offline | unsynced | idle | waitPermit | moving | stopping | suspended | presenting | faulted | withdrawn
  deriving DecidableEq, Repr

inductive Direction
  | forward
  | backward
  deriving DecidableEq, Repr

/-- The fault cause (Table 6-1). -/
inductive FaultCause
  | drive (code : Nat)
  | timeout
  | misposition
  deriving DecidableEq, Repr

/-- The chosen carrier and its target offset (Table 6-1). -/
structure Choice where
  carrier : CarrierId
  target : Nat
  deriving DecidableEq, Repr

/-- The last move (Table 6-1). -/
structure LastMove where
  direction : Direction
  steps : Nat
  deriving DecidableEq, Repr

/-- A carousel's motion record (Table 6-1). A timer is stopped (`none`) or runs with a remaining time in 0.1 s. -/
structure Motion where
  state : MotionState
  held : Option Nat
  chosen : Option Choice
  lastMove : Option LastMove
  moveTimer : Option Nat
  stopTimer : Option Nat
  hold : Bool
  fault : Option FaultCause
  guardLatch : GuardLevel
  deriving DecidableEq, Repr

/-! ## Calls and presentations (chapter 5) -/

/-- The origin of a bay of an audit scope (Table 8-1). -/
inductive Origin
  | carrier
  | sweep
  | shortPick
  deriving DecidableEq, Repr

/-- An audit scope: its bays with their origins, one outcome mode and the sweep flag (Table 5-1). -/
structure Scope where
  bays : Vector (Option Origin) 4
  mode : AuditMode
  sweep : Bool
  deriving DecidableEq, Repr

/-- A call record (Table 5-1). -/
structure Call where
  carrier : CarrierId
  stamp : Stamp
  passes : Nat
  scope : Option Scope
  setAside : Bool
  deriving DecidableEq, Repr

/-- What the call planner holds for a PRESENTING carousel (5.4). -/
structure Presentation where
  carrier : CarrierId
  pendingAudit : Option Scope
  deferred : Option Scope
  faultFlag : Bool
  deriving DecidableEq, Repr

/-! ## Audits (chapter 8) -/

/-- The result that settled a bay of a phase (R139). -/
inductive SettledAs
  | matched
  | discrepancy
  deriving DecidableEq, Repr

/-- What a running phase holds for one of its bays (R137). -/
structure PhaseBay where
  origin : Origin
  snapshot : Nat
  attempt : Nat
  first : Option Nat
  second : Option Nat
  entry : EntryId
  settled : Option SettledAs
  deriving DecidableEq, Repr

/-- The running phase of a carousel (R137). -/
structure Phase where
  mode : AuditMode
  sweep : Bool
  bays : Vector (Option PhaseBay) 4
  deriving DecidableEq, Repr

/-- A carousel's sweep context (R132). -/
structure SweepContext where
  first : CarrierId
  n : Nat
  repetition : Repetition
  interleave : Interleave
  mode : AuditMode
  cursor : CarrierId
  remaining : Nat
  deriving DecidableEq, Repr

/-- The kind of a discrepancy (R141). -/
inductive DiscKind
  | shortfall
  | surplus
  | found
  deriving DecidableEq, Repr

/-- The state of a discrepancy record: ADJUSTED or OPEN (Table 8-3). -/
inductive DiscState
  | adjusted
  | opened
  deriving DecidableEq, Repr

/-- A discrepancy record (Table 8-3); its id is the number of its entry (R135). -/
structure DiscRecord where
  origin : Origin
  bay : BayRef
  lot : Option (Nat × Nat)
  book : Nat
  counted : Nat
  attempts : Nat
  kind : DiscKind
  unsteady : Bool
  cut : Nat
  trimmed : Nat
  state : DiscState
  deriving DecidableEq, Repr

/-- An entry of the discrepancy list (R135). -/
inductive DiscEntry
  | free
  | reserved
  | record (r : DiscRecord)
  deriving DecidableEq, Repr

/-! ## Tasks and lanes (chapters 4 and 7) -/

inductive TaskKind
  | pick
  | put
  deriving DecidableEq, Repr

/-- QUEUED, PRESENTED, and CANCELLED for a tombstone (R61). -/
inductive TaskState
  | queued
  | presented
  | cancelled
  deriving DecidableEq, Repr

/-- A live pick task's tie to its lane, line and set, and its urgent flag (R61). A put task and a tombstone have
none (R122). -/
structure PickWork where
  lane : LaneId
  line : Nat
  set : Option Nat
  urgent : Bool
  deriving DecidableEq, Repr

/-- A task record (R61); its ticket is its place in the pool. -/
structure Task where
  kind : TaskKind
  bay : BayRef
  count : Nat
  work : Option PickWork
  stamp : Stamp
  state : TaskState
  deriving DecidableEq, Repr

/-- The four stages of the tyres of a line or set (4.2): open, allocated, in transit, arrived. -/
structure Counters where
  openTyres : Nat
  allocated : Nat
  transit : Nat
  arrived : Nat
  deriving DecidableEq, Repr

/-- A set record: its week, absent while unbound, and its counters (R57). -/
structure SetRecord where
  week : Option Nat
  tyres : Counters
  deriving DecidableEq, Repr

/-- An unmatched line holds its own counters, a matched line a list of sets (R57). -/
inductive LineBody
  | unmatched (tyres : Counters)
  | matched (sets : List SetRecord)
  deriving DecidableEq, Repr

/-- A line record (R57). -/
structure Line where
  article : Nat
  quantity : Nat
  setSize : Nat
  minWeek : Option Nat
  waiting : Bool
  body : LineBody
  deriving DecidableEq, Repr

/-- What the order book holds of a lane's order (Table 4-1). -/
structure Order where
  ref : BitVec 32
  urgent : Bool
  lines : List Line
  closeStamp : Option Stamp
  deriving DecidableEq, Repr

/-- The lane states (Table 4-2). -/
inductive LaneState
  | free | opened | filling | complete | cancelling | cancelled | released
  deriving DecidableEq, Repr

/-- The state a RELEASED lane left (Table 4-1). -/
inductive ReleasedFrom
  | complete
  | cancelled
  deriving DecidableEq, Repr

/-- A lane (Table 4-1). -/
structure Lane where
  state : LaneState
  order : Option Order
  timer : Option Nat
  strays : Nat
  releasedFrom : Option ReleasedFrom
  deriving DecidableEq, Repr

/-! ## Notices and link ports (chapters 9 and 11) -/

/-- A face entry (Table 11-10). -/
structure FaceEntry where
  ticket : Ticket
  bay : BayId
  tombstone : Bool
  kind : TaskKind
  count : Nat
  lane : Option LaneId
  deriving DecidableEq, Repr

/-- A set of bays B0 to B3 (Table 11-12). -/
abbrev BaySet := Vector Bool 4

inductive OrderEnd
  | dropped | dispatched | cleared
  deriving DecidableEq, Repr

inductive SweepEnd
  | finished | round | abandoned
  deriving DecidableEq, Repr

/-- The notices of Table 11-12 with what they carry. -/
inductive Notice
  | putRemainder (t : Ticket) (article week tyres : Nat)
  | orderState (l : LaneId) (ref : BitVec 32) (value : OrderEnd)
  | lineShort (l : LaneId) (ref : BitVec 32) (line article openTyres : Nat)
  | laneState (l : LaneId) (state : LaneState) (ref : BitVec 32) (strays : Nat)
  | discrepancy (id : EntryId) (bay : BayRef) (kind : DiscKind) (book counted : Nat) (state : DiscState)
      (cut trimmed : Nat)
  | carousel (c : CarouselId) (state : MotionState) (fault : Option FaultCause) (hold overweight : Bool) (peak : Nat)
  | auditDone (c : CarouselId) (value : SweepEnd)
  | stray (l : LaneId) (article week strays : Nat) (state : LaneState)
  | face (c : CarouselId) (k : CarrierId) (total : Nat) (listed : List FaceEntry) (audit : BaySet)
  | taskAdded (c : CarouselId) (k : CarrierId) (entry : FaceEntry)
  | taskCancelled (c : CarouselId) (t : Ticket)
  | audit (c : CarouselId) (k : CarrierId) (bays : BaySet)
  | faceEnd (c : CarouselId) (k : CarrierId)
  | move (target : Nat) (direction : Direction) (steps : Nat)
  | stop
  deriving DecidableEq, Repr

/-- The six status flags of a port (R155). -/
structure PortFlags where
  parity : Bool := false
  framing : Bool := false
  check : Bool := false
  gap : Bool := false
  overrun : Bool := false
  noticeLost : Bool := false
  deriving DecidableEq, Repr

/-- A response: code, tag, outcome code, the six flags its status byte reports, and what follows (R155). -/
structure Response where
  code : Byte
  tag : Byte
  outcome : ReplyCode
  flags : PortFlags
  body : List Byte
  deriving DecidableEq, Repr

/-- The frame a transmitter is sending (R156). -/
inductive Outgoing
  | response (r : Response)
  | notice (n : Notice)
  deriving DecidableEq, Repr

/-- A receiver hunts for a mark, or assembles: the characters after the mark so far, and whether a parity error was
noted (R151). -/
inductive Receiver
  | hunting
  | assembling (got : List Byte) (parityNoted : Bool)
  deriving DecidableEq, Repr

/-- A link port (chapter 9). -/
structure Port where
  receiver : Receiver
  buffer : Option Frame
  inProcess : Bool
  slot : Option Response
  queue : List Notice
  sending : Option Outgoing
  flags : PortFlags
  held : Bool
  deriving DecidableEq, Repr

/-! ## Configuration (chapter 10) -/

/-- The per-carousel items (Table 10-1). -/
structure CarouselConfig where
  n : Nat
  bayHeight : Nat
  payloadLimit : Nat
  putLimit : Nat
  hardLimit : Nat
  profile : ProfileId
  station : Option StationId
  deriving DecidableEq, Repr

/-- A timing profile (R33). -/
structure TimingProfile where
  baseTime : Nat
  stepTime : Nat
  deriving DecidableEq, Repr

/-- The global items (Table 10-2). -/
structure Globals where
  profiles : Vector TimingProfile 4
  permits : Nat
  laneCapacity : Nat
  orderOpenTime : Nat
  shortPickMode : AuditMode
  deriving DecidableEq, Repr

/-- What caused the last start (R165). -/
inductive StartCause
  | powerOn | restartInput | restartRequest
  deriving DecidableEq, Repr

/-- Link bit rates in bit/s (Table 10-5). -/
inductive BitRate
  | b19200 | b38400 | b57600 | b115200
  deriving DecidableEq, Repr

/-- The two strap pins of a group of three ports; true is high (Table 10-5). -/
structure Strap where
  first : Bool
  second : Bool
  deriving DecidableEq, Repr

/-- Halted by the power-on reset input (R162); STARTING, with the OVERWEIGHT flags as they stood before the restart
(R36, R164 step 7); or running. -/
inductive PartState
  | halted
  | starting (overweightBefore : Vector Bool 6)
  | running
  deriving DecidableEq, Repr

/-! ## One carousel and the whole part -/

/-- Everything the part holds for one carousel. -/
structure Carousel where
  cfg : CarouselConfig
  motion : Motion
  guardLine : GuardLevel
  balance : Balance
  carriers : Vector Carrier 40
  calls : List Call
  face : Option Presentation
  phase : Option Phase
  sweep : Option SweepContext
  deriving DecidableEq, Repr

/-- THE MODEL'S OWN: what an operation leaves to be done once it is complete (log entry 28). `unhold`: a hold was
lifted. `face`: the test of R87 and R89. `pass`: a cause of R63. `freed`: a task was freed (R62). `select`: a call
may have become eligible (R80). `arbiter`: a cause of R101. -/
structure Due where
  unhold : Bool := false
  face : Bool := false
  pass : Bool := false
  freed : Bool := false
  select : Bool := false
  arbiter : Bool := false
  deriving DecidableEq, Repr

/-- The whole state of the part, with the queue of waiting commands. -/
structure State where
  part : PartState
  lastStart : StartCause
  stamp : Stamp
  carousels : Vector Carousel 6
  tasks : Vector (Option Task) 256
  nextTicket : Ticket
  starved : Bool
  lanes : Vector Lane 32
  discs : Vector DiscEntry 32
  discOrder : List EntryId
  globals : Globals
  ports : Vector Port 12
  straps : Vector Strap 4
  bitRates : Vector BitRate 4
  restartAsserted : Bool
  due : Due
  pending : List Instr
  deriving DecidableEq, Repr

/-! ## Power-on values -/

/-- An EMPTY bay with no marks (R20). -/
def Bay.empty : Bay :=
  { lot := none, count := 0, reserved := 0, incoming := 0, auditHold := false, disputed := false }

/-- A carrier of four EMPTY bays (R20). -/
def Carrier.empty : Carrier := { bays := Vector.replicate 4 Bay.empty, payload := 0 }

/-- The balance record at power-on (R35). -/
def Balance.zero : Balance :=
  { entries := Vector.replicate 20 0, peak := 0, peakOffset := 0, overweight := false }

/-- The motion record at power-on, with the latch at the level of its line (R117). -/
def Motion.atPowerOn (line : GuardLevel) : Motion :=
  { state := .offline, held := none, chosen := none, lastMove := none, moveTimer := none, stopTimer := none,
    hold := false, fault := none, guardLatch := line }

/-- The defaults of Table 10-1; C0 and C1 are worked from S0, C2 and C3 from S1, C4 and C5 from S2. -/
def CarouselConfig.default (c : CarouselId) : CarouselConfig :=
  { n := 20, bayHeight := 900, payloadLimit := 4000, putLimit := 6000, hardLimit := 9000, profile := 0,
    station := some ⟨c.val / 2, by omega⟩ }

/-- A carousel at power-on (R20, R35, R96, R117, R149). -/
def Carousel.atPowerOn (c : CarouselId) (line : GuardLevel) : Carousel :=
  { cfg := CarouselConfig.default c, motion := Motion.atPowerOn line, guardLine := line, balance := Balance.zero,
    carriers := Vector.replicate 40 Carrier.empty, calls := [], face := none, phase := none, sweep := none }

/-- A FREE lane with no strays and no order (R75, R130). -/
def Lane.cleared : Lane := { state := .free, order := none, timer := none, strays := 0, releasedFrom := none }

/-- A port after reset; its hold input is read as it stands (R158). -/
def Port.atReset (held : Bool) : Port :=
  { receiver := .hunting, buffer := none, inProcess := false, slot := none, queue := [], sending := none, flags := {},
    held := held }

/-- The defaults of Table 10-2. -/
def Globals.default : Globals :=
  { profiles := Vector.replicate 4 ⟨20, 15⟩, permits := 2, laneCapacity := 24, orderOpenTime := 1200,
    shortPickMode := .review }

/-- The bit rate a pair of strap pins selects (Table 10-5). -/
def Strap.rate (p : Strap) : BitRate :=
  if p.first then (if p.second then .b115200 else .b38400) else (if p.second then .b57600 else .b19200)

/-- The state after the power-on reset input is removed, for the input lines as they stand (R162): guard line levels,
hold input levels, straps and restart input. -/
def State.poweredOn (guards : Vector GuardLevel 6) (holds : Vector Bool 12) (straps : Vector Strap 4)
    (restartAsserted : Bool) (pending : List Instr) : State :=
  { part := .running, lastStart := .powerOn, stamp := 0,
    carousels := Vector.ofFn fun c => Carousel.atPowerOn c (look guards c),
    tasks := Vector.replicate 256 none, nextTicket := 0, starved := false,
    lanes := Vector.replicate 32 Lane.cleared, discs := Vector.replicate 32 .free, discOrder := [],
    globals := Globals.default, ports := Vector.ofFn fun p => Port.atReset (look holds p), straps := straps,
    bitRates := straps.map Strap.rate, restartAsserted := restartAsserted, due := {}, pending := pending }

/-- The machine after reset: power-on with every guard closed, no hold input and no restart input asserted and every
strap low (DESIGN CHOICE for these input levels, log entry 6), and no command waiting. -/
def State.reset : State :=
  State.poweredOn (Vector.replicate 6 .closed) (Vector.replicate 12 false) (Vector.replicate 4 ⟨false, false⟩) false []

end Sys2Proof.Machine
end

