-- ==== Sys2Proof/Machine/Ops.lean ====
section
/-! DEFINITION. Machine/Ops.lean: the named operations over the part's tables: accessors, stamps, ports and notices,
one change of one bay with its balance update (R8, R27, R30), the loop geometry, the task pool and the call queues. -/

namespace Sys2Proof.Machine

/-! ## Reading and changing the tables -/

def State.carousel (s : State) (c : CarouselId) : Carousel := look s.carousels c

def State.modCarousel (s : State) (c : CarouselId) (f : Carousel → Carousel) : State :=
  { s with carousels := put s.carousels c (f (s.carousel c)) }

def State.motion (s : State) (c : CarouselId) : Motion := (s.carousel c).motion

def State.modMotion (s : State) (c : CarouselId) (f : Motion → Motion) : State :=
  s.modCarousel c fun x => { x with motion := f x.motion }

def State.carrier (s : State) (c : CarouselId) (k : CarrierId) : Carrier := look (s.carousel c).carriers k

def State.modCarrier (s : State) (c : CarouselId) (k : CarrierId) (f : Carrier → Carrier) : State :=
  s.modCarousel c fun x => { x with carriers := put x.carriers k (f (look x.carriers k)) }

def State.bay (s : State) (r : BayRef) : Bay := look (s.carrier r.carousel r.carrier).bays r.bay

def State.modBay (s : State) (r : BayRef) (f : Bay → Bay) : State :=
  s.modCarrier r.carousel r.carrier fun x => { x with bays := put x.bays r.bay (f (look x.bays r.bay)) }

def State.task (s : State) (t : Ticket) : Option Task := look s.tasks t

def State.setTask (s : State) (t : Ticket) (x : Option Task) : State := { s with tasks := put s.tasks t x }

def State.lane (s : State) (l : LaneId) : Lane := look s.lanes l

def State.modLane (s : State) (l : LaneId) (f : Lane → Lane) : State :=
  { s with lanes := put s.lanes l (f (s.lane l)) }

def State.disc (s : State) (i : EntryId) : DiscEntry := look s.discs i

def State.setDisc (s : State) (i : EntryId) (e : DiscEntry) : State := { s with discs := put s.discs i e }

def State.port (s : State) (p : PortId) : Port := look s.ports p

def State.modPort (s : State) (p : PortId) (f : Port → Port) : State :=
  { s with ports := put s.ports p (f (s.port p)) }

/-- The six carousels in order of number. -/
def carouselIds : List CarouselId := List.finRange 6

/-! ## Work due once the operation is complete -/

def State.dueUnhold (s : State) : State := { s with due := { s.due with unhold := true } }
def State.dueFace (s : State) : State := { s with due := { s.due with face := true } }
def State.duePass (s : State) : State := { s with due := { s.due with pass := true } }
def State.dueFreed (s : State) : State := { s with due := { s.due with freed := true } }
def State.dueSelect (s : State) : State := { s with due := { s.due with select := true } }
def State.dueArbiter (s : State) : State := { s with due := { s.due with arbiter := true } }

/-! ## Choosing from lists -/

/-- The first entry that no other entry is strictly better than. -/
def best? {α : Type} (better : α → α → Bool) : List α → Option α
  | [] => none
  | x :: rest =>
    match best? better rest with
    | none => some x
    | some y => if better y x then some y else some x

/-- Insertion before the first entry that must come after it. -/
def insertBy {α : Type} (before : α → α → Bool) (x : α) : List α → List α
  | [] => [x]
  | y :: rest => if before y x then y :: insertBy before x rest else x :: y :: rest

/-- A stable sort: entries that neither must precede keep their order. -/
def sortBy {α : Type} (before : α → α → Bool) (l : List α) : List α :=
  l.reverse.foldl (fun acc x => insertBy before x acc) []

/-! ## Stamps -/

/-- The older of two stamps is the one whose difference to the other, modulo 2^32, is below 2^31 ("Stamps and
age"); exactly 2^31 apart the manual does not say (free value, log entry 2). -/
def stampOlder (a b : Stamp) : Bool :=
  let d := (b - a).toNat
  if d = 2 ^ 31 then Config.halfwayOlder a b else decide (0 < d ∧ d < 2 ^ 31)

/-- The counter moves on after a stamp is issued: the stamp issued is the value it held (log entry 3). -/
def State.bumpStamp (s : State) : State := { s with stamp := s.stamp + 1 }

/-! ## Ports: sending, posting and placing (chapter 9) -/

/-- An idle transmitter that is not held starts the response in the slot, or else the oldest notice (R156). -/
def Port.startNext (p : Port) : Port :=
  if p.sending.isSome || p.held then p
  else
    match p.slot with
    | some r => { p with sending := some (.response r), slot := none }
    | none =>
      match p.queue with
      | [] => p
      | n :: rest => { p with sending := some (.notice n), queue := rest }

/-- A notice joins the queue, or is dropped with NOTICE_LOST where the queue holds 8 (R157); an idle transmitter
starts at once (R156, log entry 7). -/
def Port.post (n : Notice) (p : Port) : Port :=
  if p.queue.length < Config.noticeQueuePlaces then { p with queue := p.queue ++ [n] }.startNext
  else { p with flags := { p.flags with noticeLost := true } }

/-- A response is placed: its status byte reports the flags as they stand, every flag reported is cleared in the same
step (R155), and the request is no longer in process (R153). -/
def Port.place (code tag : Byte) (outcome : ReplyCode) (body : List Byte) (p : Port) : Port :=
  { p with slot := some ⟨code, tag, outcome, p.flags, body⟩, flags := {}, inProcess := false }.startNext

def State.post (s : State) (p : PortId) (n : Notice) : State := s.modPort p (Port.post n)

/-- L0, the stock computer's port. -/
def stockPort : PortId := 0

/-- L11, the lane controller's port. -/
def lanePort : PortId := 11

/-- L1 to L4 for S0 to S3 (Table 0-1). -/
def stationPort (st : StationId) : PortId := ⟨st.val + 1, by omega⟩

/-- L5 to L10 for C0 to C5 (Table 0-1). -/
def drivePort (c : CarouselId) : PortId := ⟨c.val + 5, by omega⟩

/-- A notice to the station assigned to a carousel; a carousel with no station has none to post to (log entry 26). -/
def State.postStation (s : State) (c : CarouselId) (n : Notice) : State :=
  match (s.carousel c).cfg.station with
  | none => s
  | some st => s.post (stationPort st) n

/-- The CAROUSEL notice (R113, Table 11-12) to L0. -/
def State.postCarousel (s : State) (c : CarouselId) : State :=
  let x := s.carousel c
  s.post stockPort (.carousel c x.motion.state x.motion.fault x.motion.hold x.balance.overweight x.balance.peak)

/-- A LANE_STATE notice (R128) to one port. -/
def State.postLaneState (s : State) (p : PortId) (l : LaneId) : State :=
  let x := s.lane l
  s.post p (.laneState l x.state ((x.order.map Order.ref).getD 0) x.strays)

/-- LANE_STATE to L11 and another to L0 (R121, R123, R124). -/
def State.postLaneStateBoth (s : State) (l : LaneId) : State :=
  (s.postLaneState lanePort l).postLaneState stockPort l

/-- Whom a response goes to: the port, and the code and tag of the request (R155). -/
structure ReplyTo where
  port : PortId
  code : Byte
  tag : Byte
  deriving DecidableEq, Repr

/-- The code of a response: the request's code plus 80h, or FFh outside 01h to 3Fh (R155, R167). -/
def responseCode (code : Byte) : Byte := if 0x01 ≤ code.toNat ∧ code.toNat ≤ 0x3F then code + 0x80 else 0xFF

/-- The response is placed in the slot of the request's port (R155). A refused request carries no payload after the
status byte. -/
def State.respond (s : State) (rt : ReplyTo) (outcome : ReplyCode) (body : List Byte) : State :=
  s.modPort rt.port (Port.place (responseCode rt.code) rt.tag outcome body)

/-- A request refused by a check: nothing changes but the response (R154, R155). -/
def State.refuse (s : State) (rt : ReplyTo) (outcome : ReplyCode) : State := s.respond rt outcome []

/-! ## Stack limit, headroom, mass (chapter 1) -/

/-- The stack limit for a section width: the lesser of 15 and the whole part of height ÷ width (R4). -/
def stackLimit (bayHeight width : Nat) : Nat := min Config.stackCap (bayHeight / width)

def State.stackLimitFor (s : State) (c : CarouselId) (width : Nat) : Nat :=
  stackLimit (s.carousel c).cfg.bayHeight width

/-- The stack limit of a bay for its own width; 0 is reported for an EMPTY bay (R17). -/
def State.stackLimitOf (s : State) (r : BayRef) : Nat :=
  match (s.bay r).lot with
  | none => 0
  | some lot => s.stackLimitFor r.carousel lot.width

/-- Count less reserved (R5). -/
def Bay.free (b : Bay) : Nat := b.count - b.reserved

/-- What a bay adds to its carrier's planned payload: (count + incoming) × unit mass, 0 when EMPTY (R7). -/
def Bay.mass (b : Bay) : Nat :=
  match b.lot with
  | none => 0
  | some lot => (b.count + b.incoming) * lot.unitMass

/-- How many tyres of a unit mass the payload limit leaves room for (R7). -/
def headroom (limit payload unitMass : Nat) : Nat := if payload < limit then (limit - payload) / unitMass else 0

/-- A bay whose counts are all 0 returns to EMPTY and keeps its marks (R12). -/
def Bay.settleEmpty (b : Bay) : Bay :=
  if b.count = 0 ∧ b.reserved = 0 ∧ b.incoming = 0 then { b with lot := none } else b

/-! ## Loop geometry (chapter 2) -/

/-- At offset k carrier c stands at (c + k) mod N, on the front run below N/2 (R23). -/
def onFront (n k c : Nat) : Bool := (c + k) % n < n / 2

/-- The target offset that brings carrier c to the face (R23). -/
def targetOffset (n c : Nat) : Nat := (n - c) % n

/-- The carrier at the face at offset k (R23). -/
def faceCarrier (n k : Nat) : Nat := (n - k) % n

/-- The way from offset k to offset t: direction and steps, forward where both ways are equally long (R32). -/
def rotation (n k t : Nat) : Direction × Nat :=
  let f := (t + n - k) % n
  if f ≤ n - f then (.forward, f) else (.backward, n - f)

/-- The rotation distance (R32). -/
def distance (n k t : Nat) : Nat := (rotation n k t).2

/-- The offset from which a move towards offset t started, worked back by its direction and steps (R23). -/
def moveOrigin (n t : Nat) (w : LastMove) : Nat :=
  match w.direction with
  | .forward => (t + n - w.steps) % n
  | .backward => (t + w.steps) % n

/-! ## Balance (chapter 2) -/

/-- The largest magnitude among the entries of the listed offsets, and the first offset that has it (R26). -/
def scanPeak (entries : Vector Int 20) : List (Fin 20) → Nat × Nat
  | [] => (0, 0)
  | k :: rest =>
    let r := scanPeak entries rest
    let m := (look entries k).natAbs
    if m ≥ r.1 then (m, k.val) else r

/-- The offsets of the half-profile, 0 to N/2−1 (R25). -/
def halfOffsets (n : Nat) : List (Fin 20) := (List.finRange 20).filter fun k => k.val < n / 2

/-- The peak and the peak offset, worked anew from all N/2 entries (R26). -/
def Balance.rework (n : Nat) (b : Balance) : Balance :=
  let r := scanPeak b.entries (halfOffsets n)
  { b with peak := r.1, peakOffset := r.2 }

/-- Entry k after a change Δ of carrier c's planned payload (R27); places N/2 to 19 stay as they are (R25). -/
def shiftedEntry (n c : Nat) (delta : Int) (entries : Vector Int 20) (k : Fin 20) : Int :=
  if k.val < n / 2 then
    if onFront n k.val c then look entries k + delta else look entries k - delta
  else look entries k

/-- The half-profile after a change Δ of carrier c's planned payload, with its peak worked anew (R27). -/
def Balance.shift (n c : Nat) (delta : Int) (b : Balance) : Balance :=
  { b with entries := Vector.ofFn (shiftedEntry n c delta b.entries) }.rework n

/-- Twice the front run's payloads at offset k less the total (R24). -/
def definedEntry (n : Nat) (carriers : Vector Carrier 40) (k : Fin 20) : Int :=
  if k.val < n / 2 then
    ((List.finRange 40).foldl (fun acc (c : Fin 40) =>
      if c.val < n then
        if onFront n k.val c.val then acc + ((look carriers c).payload : Int)
        else acc - ((look carriers c).payload : Int)
      else acc) 0)
  else 0

/-- The half-profile worked from its definition (R36). -/
def Balance.rebuild (n : Nat) (carriers : Vector Carrier 40) (b : Balance) : Balance :=
  { b with entries := Vector.ofFn (definedEntry n carriers) }.rework n

/-- Set if the peak is above the hard limit, clear at it or below (R30). -/
def Carousel.overweightNow (x : Carousel) : Bool := x.cfg.hardLimit < x.balance.peak

/-- The OVERWEIGHT test (R30): a change of the flag posts a CAROUSEL notice at once, makes the planner look at the
carousel's calls again, and lifts the hold of its put tasks when it clears (R31). -/
def State.testOverweight (s : State) (c : CarouselId) : State :=
  let x := s.carousel c
  if x.overweightNow = x.balance.overweight then s
  else
    ((s.modCarousel c fun y => { y with balance := { y.balance with overweight := x.overweightNow } }).postCarousel
      c).dueSelect.dueUnhold

/-- The balance unit takes a change Δ of carrier k's planned payload (R27); a change of 0 is not handed over. -/
def State.balanceChange (s : State) (c : CarouselId) (k : CarrierId) (delta : Int) : State :=
  if delta = 0 then s
  else (s.modCarousel c fun x => { x with balance := x.balance.shift x.cfg.n k.val delta }).testOverweight c

/-- What a change of a bay adds to its carrier's planned payload (R8): the bay's mass after less its mass before. While
the lot stays this is (change of count + change of incoming) × unit mass, and for LOAD_BAY new less old. -/
def massChange (before after : Bay) : Int := (after.mass : Int) - (before.mass : Int)

/-- The new counts of a bay and the payload of its carrier, written together (R8, first and second step). -/
def Carrier.change (b : BayId) (f : Bay → Bay) (x : Carrier) : Carrier :=
  { bays := put x.bays b (f (look x.bays b)),
    payload := ((x.payload : Int) + massChange (look x.bays b) (f (look x.bays b))).toNat }

/-- One change of one bay (R8): counts and payload together, the balance unit, then the return to EMPTY. -/
def State.changeBay (s : State) (r : BayRef) (f : Bay → Bay) : State :=
  (((s.modCarrier r.carousel r.carrier (Carrier.change r.bay f)).balanceChange r.carousel r.carrier
      (massChange (s.bay r) (f (s.bay r)))).modBay r Bay.settleEmpty)

/-! ## The task pool (4.3) -/

/-- The tasks of the pool with their tickets, in ticket order. -/
def State.allTasks (s : State) : List (Ticket × Task) :=
  (List.finRange 256).filterMap fun t => (s.task t).map fun x => (t, x)

def Task.onCarrier (c : CarouselId) (k : CarrierId) (x : Task) : Bool := x.bay.carousel = c && x.bay.carrier = k

/-- The tasks in QUEUED state, held or not, on the bays of a carrier (5.1). -/
def State.queuedOn (s : State) (c : CarouselId) (k : CarrierId) : List (Ticket × Task) :=
  s.allTasks.filter fun p => p.2.state = .queued && p.2.onCarrier c k

/-- The PRESENTED tasks of a carousel (R86). -/
def State.presentedOn (s : State) (c : CarouselId) : List (Ticket × Task) :=
  s.allTasks.filter fun p => p.2.state = .presented && p.2.bay.carousel = c

/-- The tombstones of a carousel's presentation, in ticket order (R88). -/
def State.tombstonesOn (s : State) (c : CarouselId) : List (Ticket × Task) :=
  s.allTasks.filter fun p => p.2.state = .cancelled && p.2.bay.carousel = c

/-- The first free place at or after the next-ticket pointer, wrapping from 255 to 0 (R61). -/
def State.freeTicket? (s : State) : Option Ticket :=
  ((List.finRange 256).map fun i => s.nextTicket + i).find? fun t => (s.task t).isNone

/-- Free places of the pool (R165). -/
def State.freeTickets (s : State) : Nat := 256 - s.allTasks.length

/-- The task takes its place and the pointer moves to the ticket after it (R61). -/
def State.storeTask (s : State) (t : Ticket) (x : Task) : State :=
  { s.setTask t (some x) with nextTicket := t + 1 }

/-- A task is held while its bay carries AUDIT_HOLD or DISPUTED, and a put task while its carousel is OVERWEIGHT
(R79). -/
def State.isHeld (s : State) (x : Task) : Bool :=
  (s.bay x.bay).auditHold || (s.bay x.bay).disputed
    || (x.kind = .put && (s.carousel x.bay.carousel).balance.overweight)

/-- By bay, B0 to B3, and within a bay by create stamp, oldest first (R85). -/
def faceBefore (a b : Ticket × Task) : Bool :=
  a.2.bay.bay < b.2.bay.bay || (a.2.bay.bay = b.2.bay.bay && stampOlder a.2.stamp b.2.stamp)

/-! ## Audit scopes -/

/-- The bays of a scope. -/
def Scope.bayList (x : Scope) : List BayId := (List.finRange 4).filter fun b => (look x.bays b).isSome

/-- A scope of all four bays of a carrier (Table 8-1). -/
def Scope.whole (o : Origin) (mode : AuditMode) (sweep : Bool) : Scope :=
  { bays := Vector.replicate 4 (some o), mode := mode, sweep := sweep }

/-- A scope of one bay (R92). -/
def Scope.single (b : BayId) (o : Origin) (mode : AuditMode) : Scope :=
  { bays := put (Vector.replicate 4 none) b (some o), mode := mode, sweep := false }

/-- REVIEW if either mode is REVIEW (R77). -/
def mergeMode (a b : AuditMode) : AuditMode := if a = .review ∨ b = .review then .review else .adjust

/-- The merge of a later scope into an earlier one (R77): a bay keeps the origin it first joined with. -/
def Scope.merge (old new : Scope) : Scope :=
  { bays := Vector.ofFn fun b => (look old.bays b).or (look new.bays b), mode := mergeMode old.mode new.mode,
    sweep := old.sweep || new.sweep }

/-- Merging into a scope that may be absent. -/
def mergeScope (old : Option Scope) (new : Scope) : Option Scope :=
  match old with
  | none => some new
  | some o => some (o.merge new)

/-- The union of two scopes that may be absent (R93, R110). -/
def unionScope (a b : Option Scope) : Option Scope :=
  match b with
  | none => a
  | some y => mergeScope a y

/-- A scope without its SWEEP bays and with its sweep flag clear; nothing where no bay is left (R134). -/
def Scope.withoutSweep (x : Scope) : Option Scope :=
  let y : Scope := { x with bays := x.bays.map fun o => if o = some .sweep then none else o, sweep := false }
  if y.bayList.isEmpty then none else some y

/-! ## The call queue (5.1) -/

/-- The call of a carrier (R76: at most one). -/
def Carousel.callFor (x : Carousel) (k : CarrierId) : Option Call := x.calls.find? fun q => q.carrier = k

/-- The carrier is presented at the carousel's face. -/
def Carousel.presents (x : Carousel) (k : CarrierId) : Bool := (x.face.map Presentation.carrier) = some k

/-- A raised call takes a new entry stamp and joins the end of its queue (R77). -/
def State.raiseCall (s : State) (c : CarouselId) (k : CarrierId) (scope : Option Scope) (setAside : Bool) : State :=
  ((s.modCarousel c fun x => { x with calls := x.calls ++ [⟨k, s.stamp, 0, scope, setAside⟩] }).bumpStamp).dueSelect

/-- The carrier's call, for every call of that carrier. -/
def State.modCalls (s : State) (c : CarouselId) (f : Call → Call) : State :=
  s.modCarousel c fun x => { x with calls := x.calls.map f }

/-- The carousel goes from WAIT_PERMIT back to IDLE (R82, R114): the choice and its target are cleared. -/
def State.dropChoice (s : State) (c : CarouselId) : State :=
  (s.modMotion c fun m => { m with state := .idle, chosen := none }).dueSelect

/-- A call leaves its queue (R78); a carousel waiting for a permit for it drops its choice (R82). -/
def State.removeCall (s : State) (c : CarouselId) (k : CarrierId) : State :=
  let s' := s.modCarousel c fun x => { x with calls := x.calls.filter fun q => q.carrier ≠ k }
  if (s.motion c).state = .waitPermit ∧ (s.motion c).chosen.map Choice.carrier = some k then s'.dropChoice c else s'

/-- A call left with no task content and no scope is removed (R78); one that remains may no longer be eligible, so
selection looks at it again (R82). -/
def State.pruneCall (s : State) (c : CarouselId) (k : CarrierId) : State :=
  match (s.carousel c).callFor k with
  | none => s
  | some q => if q.scope.isNone && (s.queuedOn c k).isEmpty then s.removeCall c k else s.dueSelect

/-- A carrier with content has a call unless it is presented (R76, R77). -/
def State.ensureCall (s : State) (c : CarouselId) (k : CarrierId) : State :=
  if (s.carousel c).presents k || ((s.carousel c).callFor k).isSome then s.dueSelect else s.raiseCall c k none false

/-- A scope is raised for a carrier (R77, R87): it merges into the pending audit of the presented carrier, into the
carrier's call, or raises a call. -/
def State.raiseScope (s : State) (c : CarouselId) (k : CarrierId) (scope : Scope) : State :=
  let x := s.carousel c
  if x.presents k then
    (s.modCarousel c fun y =>
      { y with face := y.face.map fun p => { p with pendingAudit := mergeScope p.pendingAudit scope } }).dueFace
  else if (x.callFor k).isSome then
    (s.modCalls c fun q => if q.carrier = k then { q with scope := mergeScope q.scope scope } else q).dueSelect
  else s.raiseCall c k (some scope) false

/-- A task is freed: its ticket returns to the pool and an empty call goes (R62, R78). -/
def State.freeTask (s : State) (t : Ticket) : State :=
  match s.task t with
  | none => s
  | some x => ((s.setTask t none).dueFreed).pruneCall x.bay.carousel x.bay.carrier

/-! ## Presenting tasks (R85, R86, R88) -/

/-- A task as a face entry (Table 11-10); a put task and a tombstone carry no lane. -/
def faceEntry (t : Ticket) (x : Task) : FaceEntry :=
  { ticket := t, bay := x.bay.bay, tombstone := x.state = .cancelled, kind := x.kind, count := x.count,
    lane := x.work.map PickWork.lane }

/-- A QUEUED task joins a running presentation with a TASK_ADDED notice (R86). -/
def State.presentTask (s : State) (t : Ticket) (x : Task) : State :=
  (s.setTask t (some { x with state := .presented })).postStation x.bay.carousel
    (.taskAdded x.bay.carousel x.bay.carrier (faceEntry t { x with state := .presented }))

/-- Every unheld QUEUED task of the presented carrier becomes PRESENTED (R86), in the order of the face. -/
def State.presentUnheld (s : State) (c : CarouselId) : State :=
  match (s.carousel c).face with
  | none => s
  | some p =>
    (sortBy faceBefore ((s.queuedOn c p.carrier).filter fun q => !s.isHeld q.2)).foldl
      (fun acc q => acc.presentTask q.1 q.2) s

/-- Where a hold was lifted, tasks at the faces become PRESENTED as soon as they are not held (R86). -/
def State.releaseHolds (s : State) : State :=
  if s.due.unhold then
    { (carouselIds.foldl State.presentUnheld s) with due := { s.due with unhold := false, select := true } }
  else s

/-- A created or grown task goes to the call planner (R44, R68): it joins its carrier's call or raises one, or it is
presented at once where its carrier is at the face and its bay is not held (R86). -/
def State.joinPlanner (s : State) (t : Ticket) : State :=
  match s.task t with
  | none => s
  | some x =>
    if (s.carousel x.bay.carousel).presents x.bay.carrier then
      if x.state = .queued ∧ ¬ s.isHeld x then s.presentTask t x else s
    else s.ensureCall x.bay.carousel x.bay.carrier

/-- What a task holds of its bay: a pick task's share of reserved, a put task's share of incoming (R10). -/
def giveBack (x : Task) (b : Bay) : Bay :=
  match x.kind with
  | .pick => { b with reserved := b.reserved - x.count }
  | .put => { b with incoming := b.incoming - x.count }

/-- A PRESENTED task becomes a tombstone (R88): it gives up its share of its bay, its tie to its lane ends (R122), and
a TASK_CANCELLED notice goes to the owning station. -/
def State.entomb (s : State) (t : Ticket) (x : Task) : State :=
  (((s.changeBay x.bay (giveBack x)).setTask t (some { x with state := .cancelled, work := none })).postStation
    x.bay.carousel (.taskCancelled x.bay.carousel t)).dueFace

/-- The tombstones of a carousel's presentation are freed (R88). -/
def State.freeTombstones (s : State) (c : CarouselId) : State :=
  (s.tombstonesOn c).foldl (fun acc q => acc.freeTask q.1) s

/-! ## Line and set counters (4.2) -/

def Counters.zero : Counters := ⟨0, 0, 0, 0⟩

def Counters.add (a b : Counters) : Counters :=
  ⟨a.openTyres + b.openTyres, a.allocated + b.allocated, a.transit + b.transit, a.arrived + b.arrived⟩

/-- A matched line's counters are the sums over its sets (R57). -/
def Line.tyres (l : Line) : Counters :=
  match l.body with
  | .unmatched t => t
  | .matched sets => sets.foldl (fun acc x => acc.add x.tyres) Counters.zero

/-- The sets of a matched line. -/
def Line.sets (l : Line) : List SetRecord :=
  match l.body with
  | .unmatched _ => []
  | .matched sets => sets

/-- The counters a pick task moves: the line's own for an unmatched line, the set's for a matched one (R58). -/
def Line.modTyres (set : Option Nat) (f : Counters → Counters) (l : Line) : Line :=
  match l.body, set with
  | .unmatched t, _ => { l with body := .unmatched (f t) }
  | .matched sets, some i => { l with body := .matched (sets.modify i fun x => { x with tyres := f x.tyres }) }
  | .matched _, none => l

def Line.modSet (i : Nat) (f : SetRecord → SetRecord) (l : Line) : Line :=
  match l.body with
  | .unmatched _ => l
  | .matched sets => { l with body := .matched (sets.modify i f) }

def Lane.lines (x : Lane) : List Line := (x.order.map Order.lines).getD []

def Lane.modLines (f : List Line → List Line) (x : Lane) : Lane :=
  { x with order := x.order.map fun o => { o with lines := f o.lines } }

def State.line? (s : State) (l : LaneId) (i : Nat) : Option Line := (s.lane l).lines[i]?

def State.modLine (s : State) (l : LaneId) (i : Nat) (f : Line → Line) : State :=
  s.modLane l (Lane.modLines fun ls => ls.modify i f)

/-- The counters of a task's line and set move with it, in the same operation (R58). -/
def State.modWork (s : State) (w : PickWork) (f : Counters → Counters) : State :=
  s.modLine w.lane w.line (Line.modTyres w.set f)

/-- Allocated tyres go back to open (Table 4-4). -/
def Counters.reopen (c : Nat) (x : Counters) : Counters :=
  { x with allocated := x.allocated - c, openTyres := x.openTyres + c }

/-- Open tyres are allocated (Table 4-4). -/
def Counters.allocate (a : Nat) (x : Counters) : Counters :=
  { x with openTyres := x.openTyres - a, allocated := x.allocated + a }

/-- k of m allocated tyres are picked, the others go back to open (Table 4-4). -/
def Counters.pick (k m : Nat) (x : Counters) : Counters :=
  { x with allocated := x.allocated - m, transit := x.transit + k, openTyres := x.openTyres + (m - k) }

/-- One tyre in transit arrives (Table 4-4). -/
def Counters.arrive (x : Counters) : Counters := { x with transit := x.transit - 1, arrived := x.arrived + 1 }

/-! ## Taking pick tasks away (4.5) -/

/-- A live pick task is taken away: a QUEUED one is freed with its bay's reserved falling by its count, a PRESENTED one
becomes a tombstone (R70, R72). The caller moves the counters. -/
def State.takeAway (s : State) (t : Ticket) (x : Task) : State :=
  match x.state with
  | .queued => (s.changeBay x.bay (giveBack x)).freeTask t
  | .presented => s.entomb t x
  | .cancelled => s

/-- The live pick tasks of a lane that satisfy a test on their work, in ticket order (log entry 20). -/
def State.pickTasks (s : State) (l : LaneId) (keep : PickWork → Bool) : List (Ticket × Task) :=
  s.allTasks.filter fun p =>
    match p.2.work with
    | none => false
    | some w => w.lane = l && keep w

/-- A set is released whole (R70): every other pick task of it is taken away, and it is unbound and OPEN. -/
def State.releaseSet (s : State) (l : LaneId) (line set : Nat) : State :=
  let s' := (s.pickTasks l fun w => w.line = line && w.set = some set).foldl (fun acc q => acc.takeAway q.1 q.2) s
  s'.modLine l line fun x =>
    x.modSet set fun _ => { week := none, tyres := { Counters.zero with openTyres := x.setSize } }

/-- After tyres of a set went back to open: with nothing in transit or arrived the set is released whole, and
otherwise it stays bound (R70). -/
def State.afterReopen (s : State) (w : PickWork) : State :=
  match w.set with
  | none => s.duePass
  | some i =>
    match (s.line? w.lane w.line).bind fun x => x.sets[i]? with
    | none => s.duePass
    | some r =>
      if r.tyres.transit = 0 ∧ r.tyres.arrived = 0 then (s.releaseSet w.lane w.line i).duePass else s.duePass

/-- A cut of c tyres from a QUEUED pick task (R69, R70). -/
def State.cutTask (s : State) (t : Ticket) (x : Task) (c : Nat) : State :=
  let s1 := s.changeBay x.bay fun b => { b with reserved := b.reserved - c }
  let s2 := if x.count ≤ c then s1.freeTask t else s1.setTask t (some { x with count := x.count - c })
  match x.work with
  | none => s2
  | some w => (s2.modWork w (Counters.reopen c)).afterReopen w

/-! ## The discrepancy list (8.2) -/

/-- The free, unreserved entries, lowest number first (R135). -/
def State.freeEntries (s : State) : List EntryId := (List.finRange 32).filter fun i => s.disc i = .free

def State.recordCount (s : State) : Nat :=
  ((List.finRange 32).filter fun i => match s.disc i with | .record _ => true | _ => false).length

def State.reservedCount (s : State) : Nat := ((List.finRange 32).filter fun i => s.disc i = .reserved).length

/-- An entry becomes free; a call may become eligible at any face (R80, R140, R145). -/
def State.freeEntry (s : State) (i : EntryId) : State := (s.setDisc i .free).dueSelect

/-- A bay loses AUDIT_HOLD (R13). -/
def State.liftHold (s : State) (r : BayRef) : State :=
  (s.modBay r fun b => { b with auditHold := false }).dueUnhold

end Sys2Proof.Machine
end

