-- ==== Sys2Proof/Machine/Flags.lean ====
section
/-! DEFINITION. Machine/Flags.lean: the status byte of a port (Table 11-5), the numbers of the enumerated fields
(Table 11-6) and the flag bytes of the records. -/

namespace Sys2Proof.Machine

/-- A byte from eight bits, bit 7 first. -/
def bits8 (b7 b6 b5 b4 b3 b2 b1 b0 : Bool) : Byte :=
  BitVec.ofNat 8 (b7.toNat * 128 + b6.toNat * 64 + b5.toNat * 32 + b4.toNat * 16 + b3.toNat * 8 + b2.toNat * 4
    + b1.toNat * 2 + b0.toNat)

/-- The error-sum indication: any of the six flags is set (R155). -/
def PortFlags.any (f : PortFlags) : Bool := f.parity || f.framing || f.check || f.gap || f.overrun || f.noticeLost

/-- The status byte (Table 11-5). -/
def PortFlags.byte (f : PortFlags) : Byte :=
  bits8 f.any false f.noticeLost f.overrun f.gap f.check f.framing f.parity

/-- Table 11-4. -/
def ReplyCode.byte : ReplyCode → Byte
  | .done => 0x00 | .doneClamped => 0x01 | .recount => 0x02 | .busy => 0x10 | .deniedRole => 0x11 | .badForm => 0x12
  | .badRange => 0x13 | .wrongState => 0x14 | .noSuch => 0x15 | .noSpace => 0x16 | .noRoom => 0x17
  | .notAtFace => 0x18 | .withdrawnTask => 0x19

def MotionState.number : MotionState → Nat
  | .offline => 0 | .unsynced => 1 | .idle => 2 | .waitPermit => 3 | .moving => 4 | .stopping => 5 | .suspended => 6
  | .presenting => 7 | .faulted => 8 | .withdrawn => 9

def LaneState.number : LaneState → Nat
  | .free => 0 | .opened => 1 | .filling => 2 | .complete => 3 | .cancelling => 4 | .cancelled => 5 | .released => 6

def LaneState.all : List LaneState := [.free, .opened, .filling, .complete, .cancelling, .cancelled, .released]

/-- The released-from byte is a lane state (R169). -/
def ReleasedFrom.number : ReleasedFrom → Nat
  | .complete => 3 | .cancelled => 5

/-- 0 none, 1 to 15 DRIVE with that code, 16 TIMEOUT, 17 MISPOSITION. -/
def faultNumber : Option FaultCause → Nat
  | none => 0
  | some (.drive code) => code
  | some .timeout => 16
  | some .misposition => 17

def modeNumber : AuditMode → Nat
  | .adjust => 0 | .review => 1

def Direction.number : Direction → Nat
  | .forward => 0 | .backward => 1

def Origin.number : Origin → Nat
  | .carrier => 0 | .sweep => 1 | .shortPick => 2

def DiscKind.number : DiscKind → Nat
  | .shortfall => 0 | .surplus => 1 | .found => 2

def DiscState.number : DiscState → Nat
  | .adjusted => 0 | .opened => 1

def OrderEnd.number : OrderEnd → Nat
  | .dropped => 0 | .dispatched => 1 | .cleared => 2

def SweepEnd.number : SweepEnd → Nat
  | .finished => 0 | .round => 1 | .abandoned => 2

def StartCause.number : StartCause → Nat
  | .powerOn => 0 | .restartInput => 1 | .restartRequest => 2

/-- A set's state, worked from its counters (R57): 0 OPEN, 1 ALLOCATED, 2 COMPLETE. -/
def setStateNumber (setSize : Nat) (t : Counters) : Nat :=
  if t.openTyres > 0 then 0 else if t.arrived = setSize then 2 else 1

/-- HOLD and OVERWEIGHT (CAROUSEL notice and READ_STATUS). -/
def Carousel.flagByte (x : Carousel) : Byte :=
  bits8 false false false false false false x.balance.overweight x.motion.hold

/-- The flags byte of READ_CAROUSEL (Table 11-7). -/
def Carousel.statusFlags (x : Carousel) : Byte :=
  bits8 false false false x.sweep.isSome x.face.isSome (x.motion.guardLatch = .opened) x.balance.overweight
    x.motion.hold

/-- The flags byte of READ_FACE (R169): HOLD, fault flag, presenting. -/
def Carousel.faceFlags (x : Carousel) : Byte :=
  bits8 false false false false false x.face.isSome ((x.face.map Presentation.faultFlag).getD false) x.motion.hold

/-- The marks byte of a bay record (Table 11-8). -/
def Bay.marks (b : Bay) : Byte := bits8 false false false false false false b.disputed b.auditHold

/-- The flags byte of a discrepancy record (Table 11-9). -/
def DiscRecord.flagByte (r : DiscRecord) : Byte :=
  bits8 false false false false false false (r.state = .opened) r.unsteady

/-- A set of bays as bits 0 to 3. -/
def BaySet.byte (b : BaySet) : Byte := bits8 false false false false (look b 3) (look b 2) (look b 1) (look b 0)

/-- The modes byte of a sweep context (Table 11-7). -/
def SweepContext.modes (w : SweepContext) : Byte :=
  bits8 false false false false false (w.mode = .review) (w.interleave = .block) (w.repetition = .rolling)

/-- The flags byte of READ_LANE part 0 (R169): urgent, closed. -/
def Lane.flagByte (x : Lane) : Byte :=
  match x.order with
  | none => 0
  | some o => bits8 false false false false false false o.closeStamp.isSome o.urgent

end Sys2Proof.Machine
end

