-- ==== Sys2Proof/Machine/Operands.lean ====
section
/-! DEFINITION. Machine/Operands.lean: the byte layouts of what the part sends (chapter 11): field encodings, records,
notices, responses and the frames they leave in. -/

namespace Sys2Proof.Machine

/-! ## Fields (R167) -/

def u8 (n : Nat) : List Byte := bytesOf 1 n
def u16 (n : Nat) : List Byte := bytesOf 2 n
def u24 (n : Nat) : List Byte := bytesOf 3 n
def u32 (n : Nat) : List Byte := bytesOf 4 n

/-- An absent one-byte value is sent as FFh. -/
def opt8 : Option Nat → List Byte
  | none => [0xFF]
  | some n => u8 n

/-- A signed three-byte field, two's complement. -/
def s24 (x : Int) : List Byte := u24 (BitVec.ofInt 24 x).toNat

/-! ## Records -/

/-- A bay record, 15 bytes (Table 11-8, R17). -/
def State.bayRecord (s : State) (r : BayRef) : List Byte :=
  let b := s.bay r
  let lot := b.lot.getD ⟨0, 0, 0, 0⟩
  u24 lot.article ++ u16 lot.week ++ u16 lot.unitMass ++ u16 lot.width ++ u8 b.count ++ u8 b.reserved
    ++ u8 b.incoming ++ u8 b.free ++ u8 (s.stackLimitOf r) ++ [b.marks]

/-- A discrepancy record, 17 bytes (Table 11-9). -/
def discRecordBytes (id : EntryId) (r : DiscRecord) : List Byte :=
  let lot := r.lot.getD (0, 0)
  u8 id.val ++ u8 r.origin.number ++ u8 r.bay.carousel.val ++ u8 r.bay.carrier.val ++ u8 r.bay.bay.val
    ++ u24 lot.1 ++ u16 lot.2 ++ u8 r.book ++ u8 r.counted ++ u8 r.attempts ++ u8 r.kind.number ++ [r.flagByte]
    ++ u8 r.cut ++ u8 r.trimmed

/-- A face entry, 4 bytes (Table 11-10). -/
def FaceEntry.bytes (e : FaceEntry) : List Byte :=
  u8 e.ticket.val
    ++ u8 (e.bay.val + (if e.tombstone then 64 else 0) + (match e.kind with | .pick => 0 | .put => 128))
    ++ u8 e.count ++ opt8 (e.lane.map Fin.val)

def Counters.bytes (t : Counters) : List Byte := u8 t.openTyres ++ u8 t.allocated ++ u8 t.transit ++ u8 t.arrived

/-- The set-size bits of a line entry: 0 for 1, 1 for 2, 2 for 4 (Table 11-11). -/
def setSizeBits (n : Nat) : Nat := if n = 4 then 2 else if n = 2 then 1 else 0

/-- A line entry, 10 bytes (Table 11-11). -/
def Line.bytes (l : Line) : List Byte :=
  u24 l.article ++ u8 (l.quantity % 32 + 32 * setSizeBits l.setSize + (if l.waiting then 128 else 0))
    ++ u16 (l.minWeek.getD 0) ++ l.tyres.bytes

/-- A set entry, 7 bytes (Table 11-11). -/
def SetRecord.bytes (setSize : Nat) (x : SetRecord) : List Byte :=
  u16 (x.week.getD 0) ++ x.tyres.bytes ++ u8 (setStateNumber setSize x.tyres)

/-! ## Notices (11.4) -/

/-- Notice codes (Table 11-3). -/
def Notice.code : Notice → Byte
  | .putRemainder .. => 0xC0 | .orderState .. => 0xC1 | .lineShort .. => 0xC2 | .laneState .. => 0xC3
  | .discrepancy .. => 0xC4 | .carousel .. => 0xC5 | .auditDone .. => 0xC6 | .stray .. => 0xC7 | .face .. => 0xD0
  | .taskAdded .. => 0xD1 | .taskCancelled .. => 0xD2 | .audit .. => 0xD3 | .faceEnd .. => 0xD4 | .move .. => 0xE0
  | .stop => 0xE1

/-- Notice payloads (Table 11-12). -/
def Notice.payload : Notice → List Byte
  | .putRemainder t article week tyres => u8 t.val ++ u24 article ++ u16 week ++ u8 tyres
  | .orderState l ref value => u8 l.val ++ u32 ref.toNat ++ u8 value.number
  | .lineShort l ref line article openTyres => u8 l.val ++ u32 ref.toNat ++ u8 line ++ u24 article ++ u8 openTyres
  | .laneState l state ref strays => u8 l.val ++ u8 state.number ++ u32 ref.toNat ++ u8 strays
  | .discrepancy id bay kind book counted state cut trimmed =>
    u8 id.val ++ u8 bay.carousel.val ++ u8 bay.carrier.val ++ u8 bay.bay.val ++ u8 kind.number ++ u8 book
      ++ u8 counted ++ u8 state.number ++ u8 cut ++ u8 trimmed
  | .carousel c state fault hold overweight peak =>
    u8 c.val ++ u8 state.number ++ u8 (faultNumber fault)
      ++ [bits8 false false false false false false overweight hold] ++ u24 peak
  | .auditDone c value => u8 c.val ++ u8 value.number
  | .stray l article week strays state => u8 l.val ++ u24 article ++ u16 week ++ u8 strays ++ u8 state.number
  | .face c k total listed bays =>
    u8 c.val ++ u8 k.val ++ u8 total ++ u8 listed.length ++ [bays.byte] ++ listed.flatMap FaceEntry.bytes
  | .taskAdded c k entry => u8 c.val ++ u8 k.val ++ entry.bytes
  | .taskCancelled c t => u8 c.val ++ u8 t.val
  | .audit c k bays => u8 c.val ++ u8 k.val ++ [bays.byte]
  | .faceEnd c k => u8 c.val ++ u8 k.val
  | .move target direction steps => u8 target ++ u8 direction.number ++ u8 steps
  | .stop => []

/-- A notice carries its own code and a tag of 00h (R167). -/
def Notice.frame (n : Notice) : Frame := ⟨n.code, 0, n.payload⟩

/-- A response frame: outcome code, status byte, and what the request's rule gives (R155). -/
def Response.frame (r : Response) : Frame := ⟨r.code, r.tag, r.outcome.byte :: r.flags.byte :: r.body⟩

/-- The frame on the line while a transmitter sends. -/
def Outgoing.frame : Outgoing → Frame
  | .response r => r.frame
  | .notice n => n.frame

/-! ## Response bodies (Table 11-7) -/

def BayRef.bytes (r : BayRef) : List Byte := u8 r.carousel.val ++ u8 r.carrier.val ++ u8 r.bay.val

/-- PUT_REQUEST: ticket, carousel, carrier, bay, n. -/
def putBody (t : Ticket) (r : BayRef) (n : Nat) : List Byte := u8 t.val ++ BayRef.bytes r ++ u8 n

/-- READ_BAY: names, bay record, planned payload (R17). -/
def State.readBayBody (s : State) (r : BayRef) : List Byte :=
  BayRef.bytes r ++ s.bayRecord r ++ u24 (s.carrier r.carousel r.carrier).payload

/-- The payload margin: the limit less the planned payload, or 0 (R18). -/
def payloadMargin (limit payload : Nat) : Nat := limit - payload

/-- READ_CARRIER: names, four bay records, planned payload, payload margin (R18). -/
def State.readCarrierBody (s : State) (c : CarouselId) (k : CarrierId) : List Byte :=
  u8 c.val ++ u8 k.val ++ (List.finRange 4).flatMap (fun b => s.bayRecord ⟨c, k, b⟩)
    ++ u24 (s.carrier c k).payload
    ++ u24 (payloadMargin (s.carousel c).cfg.payloadLimit (s.carrier c k).payload)

/-- The next record after an entry in creation order (R148). -/
def nextAfter (i : EntryId) : List EntryId → Option EntryId
  | [] => none
  | x :: rest => if x = i then rest.head? else nextAfter i rest

/-- READ_DISCREPANCY: the three numbers, and the record with the id of the next (R148). -/
def State.readDiscrepancyBody (s : State) (shown : Option (EntryId × DiscRecord)) : List Byte :=
  u8 s.recordCount ++ u8 s.reservedCount ++ u8 s.freeEntries.length
    ++ match shown with
       | none => u8 0
       | some (i, r) => u8 1 ++ discRecordBytes i r ++ opt8 ((nextAfter i s.discOrder).map Fin.val)

/-- A motion state in which the carousel holds a permit (R100). -/
def MotionState.holdsPermit : MotionState → Bool
  | .moving | .stopping | .suspended => true
  | .offline | .unsynced | .idle | .waitPermit | .presenting | .faulted | .withdrawn => false

/-- How many carousels hold a permit (R100). -/
def State.permitsHeld (s : State) : Nat :=
  (carouselIds.filter fun c => (s.motion c).state.holdsPermit).length

/-- P less the number of carousels holding one (R100). -/
def State.freePermits (s : State) : Nat := s.globals.permits - s.permitsHeld

/-- Lanes in a given state (R165). -/
def State.lanesIn (s : State) (x : LaneState) : Nat :=
  ((List.finRange 32).filter fun l => (s.lane l).state = x).length

/-- READ_STATUS (R165, Table 11-7). -/
def State.readStatusBody (s : State) : List Byte :=
  u8 s.lastStart.number ++ u32 s.stamp.toNat ++ u16 s.freeTickets ++ u8 s.starved.toNat ++ u8 s.globals.permits
    ++ u8 s.freePermits ++ LaneState.all.flatMap (fun x => u8 (s.lanesIn x)) ++ u8 s.recordCount
    ++ u8 s.reservedCount ++ u8 s.freeEntries.length
    ++ carouselIds.flatMap (fun c => u8 (s.motion c).state.number ++ [(s.carousel c).flagByte])
    ++ (List.finRange 4).flatMap (fun p => u16 (look s.globals.profiles p).baseTime)
    ++ (List.finRange 4).flatMap (fun p => u8 (look s.globals.profiles p).stepTime)
    ++ u8 s.globals.laneCapacity ++ u16 s.globals.orderOpenTime ++ u8 (modeNumber s.globals.shortPickMode)

/-- The last-move byte: bit 7 direction, bits 0 to 4 steps; FFh where absent (Table 11-7, R167). -/
def lastMoveByte : Option LastMove → List Byte
  | none => [0xFF]
  | some m => u8 (m.direction.number * 128 + m.steps)

/-- The sweep bytes are 0 when no context exists (11.3). -/
def sweepBytes : Option SweepContext → List Byte
  | none => [0, 0, 0, 0, 0]
  | some w => u8 w.first.val ++ u8 w.n ++ [w.modes] ++ u8 w.cursor.val ++ u8 w.remaining

/-- READ_CAROUSEL (R166, R34, Table 11-7). -/
def State.readCarouselBody (s : State) (c : CarouselId) : List Byte :=
  let x := s.carousel c
  let m := x.motion
  u8 c.val ++ u8 x.cfg.n ++ u16 x.cfg.bayHeight ++ u16 x.cfg.payloadLimit ++ u24 x.cfg.putLimit
    ++ u24 x.cfg.hardLimit ++ u8 x.cfg.profile.val ++ opt8 (x.cfg.station.map Fin.val) ++ u8 m.state.number
    ++ opt8 m.held ++ opt8 (m.chosen.map fun q => q.carrier.val) ++ opt8 (m.chosen.map Choice.target)
    ++ lastMoveByte m.lastMove ++ u16 (m.moveTimer.getD 0) ++ u16 (m.stopTimer.getD 0) ++ [x.statusFlags]
    ++ u8 (faultNumber m.fault) ++ u8 x.calls.length ++ sweepBytes x.sweep ++ u24 x.balance.peak
    ++ u8 x.balance.peakOffset ++ (halfOffsets x.cfg.n).flatMap (fun k => s24 (look x.balance.entries k))

/-- READ_LANE part 0: the header and every line (R169). -/
def State.readLaneHead (s : State) (l : LaneId) : List Byte :=
  let x := s.lane l
  u8 l.val ++ u8 x.state.number ++ u8 x.strays ++ opt8 (x.releasedFrom.map ReleasedFrom.number)
    ++ u32 ((x.order.map Order.ref).getD 0).toNat ++ [x.flagByte] ++ u8 x.lines.length ++ x.lines.flatMap Line.bytes

/-- READ_LANE part p from 1 to 8: the sets of line p − 1 (R169). -/
def State.readLanePart (s : State) (l : LaneId) (p : Nat) : List Byte :=
  let x := s.lane l
  let line := x.lines[p - 1]?
  let sets := (line.map Line.sets).getD []
  u8 l.val ++ u8 x.state.number ++ u8 p ++ u8 sets.length
    ++ sets.flatMap (SetRecord.bytes ((line.map Line.setSize).getD 0))

/-- The bays of a scope as a bit set; an absent scope has none. -/
def scopeBays (x : Option Scope) : BaySet := Vector.ofFn fun b => (x.map fun y => (look y.bays b).isSome).getD false

/-- The bays of a running phase (R137). -/
def phaseBays (x : Option Phase) : BaySet := Vector.ofFn fun b => (x.map fun y => (look y.bays b).isSome).getD false

/-- The settled bays of a running phase (R94). -/
def settledBays (x : Option Phase) : BaySet :=
  Vector.ofFn fun b => (x.map fun y => ((look y.bays b).bind PhaseBay.settled).isSome).getD false

/-- Every PRESENTED task in FACE order, then every tombstone in ticket order (R169); none outside PRESENTING (R94). -/
def State.faceList (s : State) (c : CarouselId) : List FaceEntry :=
  if (s.carousel c).face.isSome then
    ((sortBy faceBefore (s.presentedOn c)) ++ s.tombstonesOn c).map fun p => faceEntry p.1 p.2
  else []

/-- The entry total of READ_FACE (R169). A list of more than 255 entries, one task and 255 tombstones of one face, does
not fit the byte: a free value (log entry 35). -/
def faceTotal (n : Nat) : List Byte := if n ≤ 255 then u8 n else [Config.longFaceTotal n]

/-- READ_FACE (R94, R169). -/
def State.readFaceBody (s : State) (c : CarouselId) (first : Nat) : List Byte :=
  let x := s.carousel c
  let all := s.faceList c
  let sent := (all.drop first).take Config.faceEntriesPerRead
  u8 x.motion.state.number ++ [x.faceFlags] ++ u8 x.calls.length ++ opt8 (x.face.map fun p => p.carrier.val)
    ++ faceTotal all.length ++ u8 first ++ u8 sent.length
    ++ [BaySet.byte (scopeBays (x.face.bind Presentation.pendingAudit))] ++ [BaySet.byte (phaseBays x.phase)]
    ++ [BaySet.byte (settledBays x.phase)] ++ sent.flatMap FaceEntry.bytes

end Sys2Proof.Machine
end

