-- ==== Sys2Proof/Machine/Planner.lean ====
section
/-! DEFINITION. Machine/Planner.lean: entering FAULTED and IDLE (R109), handing a pending audit over (R137), sweeps
(R133), presentations (R84 to R89), eligibility, classes and selection (R79 to R83). -/

namespace Sys2Proof.Machine

/-! ## Leaving a motion state -/

/-- At rest: no choice, no last move, both timers stopped (R97, R109). -/
def Motion.rest (m : Motion) (x : MotionState) : Motion :=
  { m with state := x, chosen := none, lastMove := none, moveTimer := none, stopTimer := none }

/-- A permit is returned by leaving the states that hold one; the arbiter then runs (R100, R101). -/
def State.returnPermit (s : State) (before : MotionState) : State := if before.holdsPermit then s.dueArbiter else s

/-- The carousel goes to IDLE (R84, R89); selection runs once the operation is complete (R80). -/
def State.enterIdle (s : State) (c : CarouselId) : State :=
  ((s.modMotion c fun m => m.rest .idle).returnPermit (s.motion c).state).dueSelect

/-- The steps of R109 with the cause as it is already written. -/
def State.goFaulted (s : State) (c : CarouselId) : State :=
  ((s.modMotion c fun m => m.rest .faulted).postCarousel c).returnPermit (s.motion c).state

/-- The carousel goes to FAULTED with a cause (R109). -/
def State.enterFaulted (s : State) (c : CarouselId) (cause : FaultCause) : State :=
  (s.modMotion c fun m => { m with fault := some cause }).goFaulted c

/-! ## Sweeps (8.1) -/

/-- A scope is added to the deferred scope of the presentation (R133, R137). -/
def State.defer (s : State) (c : CarouselId) (scope : Scope) : State :=
  s.modCarousel c fun x =>
    { x with face := x.face.map fun p => { p with deferred := mergeScope p.deferred scope } }

/-- The sweep's scope for a carrier (Table 8-1). -/
def SweepContext.scope (w : SweepContext) : Scope := Scope.whole .sweep w.mode true

/-- The next carrier of a sweep, (cursor + 1) mod N (R133). -/
def nextCarrier (n : Nat) (k : CarrierId) : CarrierId := Fin.ofNat 40 ((k.val + 1) % n)

/-- A scope raised by the advance of a sweep joins the deferred scope where its carrier is still presented (R133). -/
def State.raiseAdvanced (s : State) (c : CarouselId) (k : CarrierId) (scope : Scope) : State :=
  if (s.carousel c).presents k then s.defer c scope else s.raiseScope c k scope

def State.setSweep (s : State) (c : CarouselId) (w : Option SweepContext) : State :=
  s.modCarousel c fun x => { x with sweep := w }

/-- A sweep advances (R133). -/
def State.advanceSweep (s : State) (c : CarouselId) : State :=
  match (s.carousel c).sweep with
  | none => s
  | some w =>
    let k := nextCarrier (s.carousel c).cfg.n w.cursor
    if w.remaining - 1 > 0 then
      (s.setSweep c (some { w with cursor := k, remaining := w.remaining - 1 })).raiseAdvanced c k w.scope
    else
      match w.repetition with
      | .once => (s.setSweep c none).post stockPort (.auditDone c .finished)
      | .rolling =>
        ((s.setSweep c (some { w with cursor := w.first, remaining := w.n })).post stockPort
          (.auditDone c .round)).raiseAdvanced c w.first w.scope

/-! ## The audit phase begins, is deferred, or has nothing to count (R137) -/

def State.modFace (s : State) (c : CarouselId) (f : Presentation → Presentation) : State :=
  s.modCarousel c fun x => { x with face := x.face.map f }

def State.setPhase (s : State) (c : CarouselId) (p : Option Phase) : State :=
  s.modCarousel c fun x => { x with phase := p }

/-- A scope with only the listed bays. -/
def Scope.only (x : Scope) (bays : List BayId) : Scope :=
  { x with bays := Vector.ofFn fun b => if b ∈ bays then look x.bays b else none }

/-- What a phase holds for a bay as it begins: the book count as snapshot, no attempt, no count (R137). -/
def PhaseBay.start (o : Origin) (snapshot : Nat) (e : EntryId) : PhaseBay :=
  { origin := o, snapshot := snapshot, attempt := 0, first := none, second := none, entry := e, settled := none }

/-- Each bay of a phase with the entry reserved for it, lowest-numbered free entries in bay order (R135). -/
def phaseTable (s : State) (c : CarouselId) (k : CarrierId) (scope : Scope) (given : List (BayId × EntryId)) :
    Vector (Option PhaseBay) 4 :=
  given.foldl (fun v p =>
    put v p.1 (some (PhaseBay.start ((look scope.bays p.1).getD .carrier) (s.bay ⟨c, k, p.1⟩).count p.2)))
    (Vector.replicate 4 none)

/-- The phase begins (R137, step 4): entries reserved, AUDIT_HOLD set, AUDIT posted to the station. -/
def State.beginPhase (s : State) (c : CarouselId) (k : CarrierId) (scope : Scope) (bays : List BayId) : State :=
  let given := bays.zip s.freeEntries
  let phase : Phase := { mode := scope.mode, sweep := scope.sweep, bays := phaseTable s c k scope given }
  let held := given.foldl (fun acc p =>
    (acc.setDisc p.2 .reserved).modBay ⟨c, k, p.1⟩ fun b => { b with auditHold := true }) s
  ((held.setPhase c (some phase)).postStation c (.audit c k (phaseBays (some phase)))).dueSelect

/-- The audit unit takes a pending audit (R137). -/
def State.handOver (s : State) (c : CarouselId) (k : CarrierId) (scope : Scope) : State :=
  let s0 := s.modFace c fun p => { p with pendingAudit := none }
  let bays := scope.bayList.filter fun b => !(s.bay ⟨c, k, b⟩).disputed
  if bays.isEmpty then (if scope.sweep then s0.advanceSweep c else s0)
  else if s.freeEntries.length < bays.length then s0.defer c (scope.only bays)
  else s0.beginPhase c k scope bays

/-! ## Presentations (5.4) -/

/-- A presentation ends (R89). -/
def State.endPresentation (s : State) (c : CarouselId) (p : Presentation) : State :=
  let s1 := (s.freeTombstones c).postStation c (.faceEnd c p.carrier)
  let s2 := s1.modCarousel c fun x => { x with face := none }
  let s3 :=
    if p.deferred.isSome || !(s2.queuedOn c p.carrier).isEmpty then s2.raiseCall c p.carrier p.deferred false else s2
  if p.faultFlag then s3.goFaulted c else s3.enterIdle c

/-- The test of R87 and R89: with no PRESENTED task and no phase running, a pending audit is handed over, and a
presentation with nothing left ends. -/
def State.faceTest (s : State) (c : CarouselId) : State :=
  match (s.carousel c).face with
  | none => s
  | some p =>
    if (s.carousel c).phase.isSome || !(s.presentedOn c).isEmpty then s
    else
      match p.pendingAudit with
      | none => s.endPresentation c p
      | some scope =>
        let s' := s.handOver c p.carrier scope
        match (s'.carousel c).face with
        | none => s'
        | some q => if (s'.carousel c).phase.isSome then s' else s'.endPresentation c q

/-- The FACE notice lists the first 18 tasks; each of the others follows in a TASK_ADDED notice (R85). -/
def State.postFace (s : State) (c : CarouselId) (k : CarrierId) (shown : List (Ticket × Task))
    (scope : Option Scope) : State :=
  let entries := shown.map fun q => faceEntry q.1 { q.2 with state := .presented }
  (entries.drop Config.faceListed).foldl (fun acc e => acc.postStation c (.taskAdded c k e))
    (s.postStation c (.face c k entries.length (entries.take Config.faceListed) (scopeBays scope)))

/-- A presentation starts, or the carousel goes to IDLE where the carrier has nothing to offer (R84). -/
def State.startPresentation (s : State) (c : CarouselId) (k : CarrierId) : State :=
  let shown := sortBy faceBefore ((s.queuedOn c k).filter fun q => !s.isHeld q.2)
  let scope := ((s.carousel c).callFor k).bind Call.scope
  if shown.isEmpty && scope.isNone then s.enterIdle c
  else
    let s1 := (s.modCarousel c fun x =>
      { x with motion := x.motion.rest .presenting, face := some ⟨k, scope, none, false⟩,
               calls := (x.calls.filter fun q => q.carrier ≠ k).map fun q => { q with setAside := false } }).returnPermit
        (s.motion c).state
    let s2 := shown.foldl (fun acc q => acc.setTask q.1 (some { q.2 with state := .presented })) s1
    let s3 := s2.postFace c k shown scope
    if shown.isEmpty then s3.faceTest c else s3

/-! ## Stopping a phase, and presentations cut short (R93, R110, R145) -/

/-- The unsettled bays of a phase (R145). -/
def Phase.unsettled (p : Phase) : List (BayId × PhaseBay) :=
  (List.finRange 4).filterMap fun b =>
    match look p.bays b with
    | none => none
    | some x => if x.settled.isNone then some (b, x) else none

/-- The unsettled bays lose AUDIT_HOLD and their reserved entries are freed; the phase is gone (R145). -/
def State.clearPhase (s : State) (c : CarouselId) (k : CarrierId) : State :=
  match (s.carousel c).phase with
  | none => s
  | some p =>
    (p.unsettled.foldl (fun acc q => (acc.modBay ⟨c, k, q.1⟩ fun b => { b with auditHold := false }).freeEntry q.2.entry)
      s).setPhase c none

/-- The unsettled bays of a running phase as a scope, with their origins, the mode and the sweep flag (R145). -/
def Phase.leftover (p : Phase) : Option Scope :=
  let x : Scope :=
    { bays := Vector.ofFn fun b =>
        match look p.bays b with
        | none => none
        | some y => if y.settled.isNone then some y.origin else none,
      mode := p.mode, sweep := p.sweep }
  if x.bayList.isEmpty then none else some x

/-- What a presentation that is cut short leaves to count: the pending audit, the unsettled bays of its phase, and the
deferred scope (R93, R110). They are united as R77 merges scopes, in this order, so a bay that stands in more than one
keeps its origin in the earliest of the three (DESIGN CHOICE, log entry 34). -/
def Carousel.leftover (x : Carousel) (p : Presentation) : Option Scope :=
  unionScope (unionScope p.pendingAudit (x.phase.bind Phase.leftover)) p.deferred

/-- Every PRESENTED task returns to QUEUED with its count and its share (R93, R110). -/
def State.requeue (s : State) (c : CarouselId) : State :=
  (s.presentedOn c).foldl (fun acc q => acc.setTask q.1 (some { q.2 with state := .queued })) s

/-- The first four steps of FACE_RELEASE and of a misposition (R93, R110): tasks back to QUEUED, tombstones freed, the
phase stopped, and what is left raised as a call. -/
def State.cutPresentation (s : State) (c : CarouselId) (p : Presentation) (setAside : Bool) : State :=
  let left := (s.carousel c).leftover p
  let s1 := (((s.requeue c).freeTombstones c).clearPhase c p.carrier).modCarousel c fun x => { x with face := none }
  if left.isSome || !(s1.queuedOn c p.carrier).isEmpty then s1.raiseCall c p.carrier left setAside else s1

/-! ## Eligibility and class (5.2) -/

/-- The classes of call content (Table 5-2), as their ranks: higher is more pressing. -/
inductive CallClass
  | audit | put | pick | urgent | sweepBlock
  deriving DecidableEq, Repr

def CallClass.rank : CallClass → Nat
  | .audit => 0 | .put => 1 | .pick => 2 | .urgent => 3 | .sweepBlock => 4

/-- The class of an unheld QUEUED task. -/
def Task.callClass (x : Task) : CallClass :=
  match x.kind with
  | .put => .put
  | .pick => if (x.work.map PickWork.urgent) = some true then .urgent else .pick

/-- A scope is eligible when the free entries are at least its bays that do not carry DISPUTED (R79). -/
def State.scopeEligible (s : State) (c : CarouselId) (k : CarrierId) (x : Scope) : Bool :=
  (x.bayList.filter fun b => !(s.bay ⟨c, k, b⟩).disputed).length ≤ s.freeEntries.length

/-- SWEEP_BLOCK for a sweep scope while the sweep context uses BLOCK, AUDIT otherwise (Table 5-2). -/
def Carousel.scopeClass (x : Carousel) (scope : Scope) : CallClass :=
  if scope.sweep ∧ (x.sweep.map SweepContext.interleave) = some .block then .sweepBlock else .audit

/-- The ranks of a call's eligible content (R79). -/
def State.content (s : State) (c : CarouselId) (q : Call) : List Nat :=
  ((s.queuedOn c q.carrier).filter fun t => !s.isHeld t.2).map (fun t => t.2.callClass.rank)
    ++ match q.scope with
       | none => []
       | some x => if s.scopeEligible c q.carrier x then [((s.carousel c).scopeClass x).rank] else []

/-- The class of a call: the highest rank of its eligible content (R79). -/
def State.callRank (s : State) (c : CarouselId) (q : Call) : Nat := (s.content c q).foldl max 0

/-- A marked call takes part only while no unmarked call of the carousel is eligible (R83). -/
def State.unmarkedEligible (s : State) (c : CarouselId) : Bool :=
  (s.carousel c).calls.any fun q => !q.setAside && !(s.content c q).isEmpty

/-- A call is eligible when it has eligible content and its set-aside mark does not exclude it (R79, R83). -/
def State.eligible (s : State) (c : CarouselId) (q : Call) : Bool :=
  !(s.content c q).isEmpty && (!q.setAside || !s.unmarkedEligible c)

/-! ## Selection (5.3) -/

/-- A call with its rank and its distance from the held offset (R81). -/
structure Ranked where
  call : Call
  rank : Nat
  steps : Nat
  deriving DecidableEq, Repr

/-- Step 2 of R81: higher class, then shorter distance, then older entry stamp. -/
def Ranked.better (a b : Ranked) : Bool :=
  a.rank > b.rank
    || (a.rank = b.rank && (a.steps < b.steps || (a.steps = b.steps && stampOlder a.call.stamp b.call.stamp)))

def State.ranked (s : State) (c : CarouselId) (q : Call) : Ranked :=
  let x := s.carousel c
  { call := q, rank := s.callRank c q,
    steps := distance x.cfg.n (x.motion.held.getD 0) (targetOffset x.cfg.n q.carrier.val) }

/-- The eligible calls of a carousel, in queue order. -/
def State.eligibleCalls (s : State) (c : CarouselId) : List Call := (s.carousel c).calls.filter (s.eligible c)

/-- The chosen call (R81, steps 1 and 2). -/
def State.choose? (s : State) (c : CarouselId) : Option Ranked :=
  let all := (s.eligibleCalls c).map (s.ranked c)
  let aged := all.filter fun r => r.call.passes ≥ Config.ageLimit
  if aged.isEmpty then best? Ranked.better all
  else best? (fun a b => stampOlder a.call.stamp b.call.stamp) aged

/-- Every eligible call older than the chosen one is passed over (R81, step 3); a count of 8 stays 8. -/
def State.passOver (s : State) (c : CarouselId) (chosen : Call) : State :=
  let passed := (s.eligibleCalls c).map Call.carrier
  s.modCalls c fun q =>
    if q.carrier ∈ passed ∧ q.carrier ≠ chosen.carrier ∧ stampOlder q.stamp chosen.stamp then
      { q with passes := min Config.ageLimit (q.passes + 1) }
    else q

/-- A carousel stands ready for selection: IDLE, HOLD clear, an eligible call (R80). -/
def State.selectable (s : State) (c : CarouselId) : Bool :=
  (s.motion c).state = .idle && !(s.motion c).hold && !(s.eligibleCalls c).isEmpty

/-- Selection for one carousel (R81, R82): a presentation at distance 0, otherwise WAIT_PERMIT. -/
def State.select (s : State) (c : CarouselId) : State :=
  match s.choose? c with
  | none => s
  | some r =>
    let s' := s.passOver c r.call
    if r.steps = 0 then s'.startPresentation c r.call.carrier
    else
      (s'.modMotion c fun m =>
        { m with state := .waitPermit,
                 chosen := some ⟨r.call.carrier, targetOffset (s.carousel c).cfg.n r.call.carrier.val⟩ }).dueArbiter

/-- The chosen call of a waiting carousel is gone or no longer eligible (R82). -/
def State.lapsed (s : State) (c : CarouselId) : Bool :=
  (s.motion c).state = .waitPermit
    && !(((s.motion c).chosen.bind fun x => (s.carousel c).callFor x.carrier).map (s.eligible c) = some true)

/-- Every waiting carousel whose chosen call lapsed returns to IDLE (R82). -/
def State.dropLapsed (s : State) : State :=
  carouselIds.foldl (fun acc c => if acc.lapsed c then acc.dropChoice c else acc) s

/-- Selections run one carousel at a time in order of number, each at most once for one operation (R80). -/
def State.selectLoop : Nat → List CarouselId → State → State
  | 0, _, s => s.dropLapsed
  | fuel + 1, done, s =>
    let s1 := s.dropLapsed
    match carouselIds.find? fun c => s1.selectable c && !(done.contains c) with
    | none => s1
    | some c => State.selectLoop fuel (c :: done) (s1.select c)

def State.selectAll (s : State) : State := State.selectLoop 6 [] s

end Sys2Proof.Machine
end

