-- ==== Sys2Proof/Machine/Allocation.lean ====
section
/-! DEFINITION. Machine/Allocation.lean: the allocation pass (4.4): eligible bays and their preference, allocation to a
bay, unmatched lines, unbound and bound sets, and the order of the pass. -/

namespace Sys2Proof.Machine

/-- Enrolled and in IDLE, WAIT_PERMIT, MOVING, STOPPING, SUSPENDED or PRESENTING (R39, R64). -/
def MotionState.inService : MotionState → Bool
  | .idle | .waitPermit | .moving | .stopping | .suspended | .presenting => true
  | .offline | .unsynced | .faulted | .withdrawn => false

/-- The bays of carriers 0 to N−1 of a carousel, in order of carrier and bay (R1). -/
def baysInUse (c : CarouselId) (n : Nat) : List BayRef :=
  ((List.finRange 40).filter fun k => k.val < n).flatMap fun k => (List.finRange 4).map fun b => ⟨c, k, b⟩

/-- The bays in use of every carousel that satisfies a test, in order of carousel, carrier and bay. -/
def State.baysWhere (s : State) (keep : Carousel → Bool) : List BayRef :=
  carouselIds.flatMap fun c => if keep (s.carousel c) then baysInUse c (s.carousel c).cfg.n else []

/-- A bay is eligible for a line (R64). -/
def State.bayEligible (s : State) (article : Nat) (minWeek : Option Nat) (r : BayRef) : Bool :=
  let b := s.bay r
  match b.lot with
  | none => false
  | some lot => lot.article = article && (minWeek.getD 0) ≤ lot.week && !b.disputed && b.free > 0

/-- The eligible bays of a line, each with its week (R64). -/
def State.eligibleBays (s : State) (article : Nat) (minWeek : Option Nat) : List (Nat × BayRef) :=
  ((s.baysWhere fun x => x.motion.state.inService).filter (s.bayEligible article minWeek)).map fun r =>
    (((s.bay r).lot.map Lot.week).getD 0, r)

/-- The carrier is presented at a PRESENTING carousel, or stands at the face of an IDLE one, or has a call (Table 4-6,
key 1). -/
def State.nearFace (s : State) (r : BayRef) : Bool :=
  let x := s.carousel r.carousel
  x.presents r.carrier
    || (x.motion.state = .idle && (x.motion.held.map fun k => faceCarrier x.cfg.n k) = some r.carrier.val)
    || (x.callFor r.carrier).isSome

/-- Bay preference by keys 1 and 2 of Table 4-6; key 3 is the order of the list. -/
def State.preferred (s : State) (a b : BayRef) : Bool :=
  (s.nearFace a && !s.nearFace b)
    || (s.nearFace a = s.nearFace b && (s.bay a).free > (s.bay b).free)

/-- The bays of one week. -/
def ofWeek (w : Nat) (l : List (Nat × BayRef)) : List BayRef := (l.filter fun p => p.1 = w).map Prod.snd

/-- The oldest week: the smallest number ("Weeks", 00_scope.md). -/
def oldest? : List Nat → Option Nat := best? fun a b => a < b

/-- The free tyres of some bays together. -/
def State.freeTotal (s : State) (l : List BayRef) : Nat := l.foldl (fun acc r => acc + (s.bay r).free) 0

/-- The QUEUED pick tasks of the same line and set on the same bay, held or not (R65, R67). -/
def State.growable (s : State) (r : BayRef) (l : LaneId) (line : Nat) (set : Option Nat) : List (Ticket × Task) :=
  (s.pickTasks l fun w => w.line = line && w.set = set).filter fun p => p.2.state = .queued && p.2.bay = r

/-- The one with the oldest create stamp. -/
def oldestTask? : List (Ticket × Task) → Option (Ticket × Task) := best? fun a b => stampOlder a.2.stamp b.2.stamp

/-- a tyres of a bay are allocated to a line or set (R65, R67, R68): the oldest QUEUED task of the same line and set on
the same bay grows, otherwise a new one is created. Nothing where a new task is needed and no place is free (R62). -/
def State.allocateTo (s : State) (r : BayRef) (a : Nat) (l : LaneId) (line : Nat) (set : Option Nat)
    (urgent : Bool) : Option State :=
  let w : PickWork := ⟨l, line, set, urgent⟩
  match oldestTask? (s.growable r l line set) with
  | some (t, x) =>
    some (((((s.changeBay r fun b => { b with reserved := b.reserved + a }).setTask t
      (some { x with count := x.count + a })).modWork w (Counters.allocate a)).joinPlanner t).dueSelect)
  | none =>
    match s.freeTicket? with
    | none => none
    | some t =>
      let s1 := s.changeBay r fun b => { b with reserved := b.reserved + a }
      let s2 := (s1.storeTask t ⟨.pick, r, a, some w, s1.stamp, .queued⟩).bumpStamp
      some (((s2.modWork w (Counters.allocate a)).joinPlanner t).dueSelect)

/-- What visiting a line or set left: the state, and whether the pass stopped for want of a ticket (R62). -/
structure Visit where
  state : State
  stopped : Bool

/-- An unmatched line (R65): the oldest week, the most preferred bay of it, the lesser of its free tyres and the open
ones; repeated while tyres are open, each time with at least one tyre, so `fuel` is the line's open tyres. -/
def State.allocUnmatched (l : LaneId) (i : Nat) (urgent : Bool) : Nat → State → Visit
  | 0, s => ⟨s, false⟩
  | fuel + 1, s =>
    match s.line? l i with
    | none => ⟨s, false⟩
    | some line =>
      if line.tyres.openTyres = 0 then ⟨s, false⟩
      else
        let bays := s.eligibleBays line.article line.minWeek
        match (oldest? (bays.map Prod.fst)).bind fun w => best? s.preferred (ofWeek w bays) with
        | none => ⟨s, false⟩
        | some r =>
          match s.allocateTo r (min (s.bay r).free line.tyres.openTyres) l i none urgent with
          | none => ⟨s, true⟩
          | some s' => State.allocUnmatched l i urgent fuel s'

/-- A set filled from the bays of its week in order of preference, from each the lesser of its free tyres and what
the set still lacks (R66); calls raised on the way count for the preference (R64). -/
def State.fillSet (l : LaneId) (i j : Nat) (line : Line) (urgent : Bool) (w : Nat) :
    (fuel lacking : Nat) → State → Option State
  | 0, _, s => some s
  | fuel + 1, lacking, s =>
    if lacking = 0 then some s
    else
      match best? s.preferred (ofWeek w (s.eligibleBays line.article line.minWeek)) with
      | none => some s
      | some r =>
        let a := min (s.bay r).free lacking
        match s.allocateTo r a l i (some j) urgent with
        | none => none
        | some s' => State.fillSet l i j line urgent w fuel (lacking - a) s'

/-- The whole need of a set from one week (R66, R67): from one bay if any has enough, the most preferred such bay,
otherwise in order of preference. Nothing where the pool has too few places. -/
def State.coverSet (s : State) (l : LaneId) (i j : Nat) (line : Line) (urgent : Bool) (w need : Nat) :
    Option State :=
  let bays := ofWeek w (s.eligibleBays line.article line.minWeek)
  match best? s.preferred (bays.filter fun r => (s.bay r).free ≥ need) with
  | some r => s.allocateTo r need l i (some j) urgent
  | none => State.fillSet l i j line urgent w need need s

/-- The week a set is to be covered from: its own where it is bound (R67), otherwise the oldest week whose eligible
bays hold enough (R66). -/
def State.weekFor (s : State) (line : Line) (r : SetRecord) : Option Nat :=
  let bays := s.eligibleBays line.article line.minWeek
  let enough := fun w => decide (s.freeTotal (ofWeek w bays) ≥ r.tyres.openTyres)
  match r.week with
  | some w => if enough w then some w else none
  | none => oldest? ((bays.map Prod.fst).filter enough)

/-- One set (R66, R67): the week is written before the tasks; where the pool has too few places nothing is written. -/
def State.allocSet (s : State) (l : LaneId) (i j : Nat) (line : Line) (urgent : Bool) (r : SetRecord) : Visit :=
  if r.tyres.openTyres = 0 then ⟨s, false⟩
  else
    match s.weekFor line r with
    | none => ⟨s, false⟩
    | some w =>
      let bound := s.modLine l i fun x => x.modSet j fun y => { y with week := some w }
      match bound.coverSet l i j line urgent w r.tyres.openTyres with
      | none => ⟨s, true⟩
      | some s' => ⟨s', false⟩

/-- The sets of a line in list order, as they stand when each is visited (R63). -/
def State.allocSets (l : LaneId) (i : Nat) (urgent : Bool) : List Nat → State → Visit
  | [], s => ⟨s, false⟩
  | j :: rest, s =>
    match (s.line? l i).bind fun x => x.sets[j]?.map fun r => (x, r) with
    | none => State.allocSets l i urgent rest s
    | some (line, r) =>
      let v := s.allocSet l i j line urgent r
      if v.stopped then v else State.allocSets l i urgent rest v.state

/-- WAITING after a visit (R60): set with a LINE_SHORT notice where tyres are left open, removed where none is. -/
def State.markWaiting (s : State) (l : LaneId) (i : Nat) : State :=
  match s.line? l i with
  | none => s
  | some line =>
    if line.tyres.openTyres = 0 then s.modLine l i fun x => { x with waiting := false }
    else if line.waiting then s
    else
      (s.modLine l i fun x => { x with waiting := true }).post stockPort
        (.lineShort l (((s.lane l).order.map Order.ref).getD 0) i line.article line.tyres.openTyres)

/-- One line of a FILLING lane (R63): passed over with no open tyres. -/
def State.allocLine (s : State) (l : LaneId) (i : Nat) : Visit :=
  match s.line? l i with
  | none => ⟨s, false⟩
  | some line =>
    if line.tyres.openTyres = 0 then ⟨s, false⟩
    else
      let urgent := ((s.lane l).order.map Order.urgent).getD false
      let v :=
        match line.body with
        | .unmatched _ => State.allocUnmatched l i urgent line.tyres.openTyres s
        | .matched sets => State.allocSets l i urgent (List.range sets.length) s
      if v.stopped then v else ⟨v.state.markWaiting l i, false⟩

/-- Lines in the order of the pass; a stop sets the pool-starved flag and ends the pass (R62). -/
def State.allocLines : List (LaneId × Nat) → State → State
  | [], s => s
  | p :: rest, s =>
    let v := s.allocLine p.1 p.2
    if v.stopped then { v.state with starved := true } else State.allocLines rest v.state

/-- Urgent lanes first, each group by close stamp, oldest first (R63). -/
def State.laneBefore (s : State) (a b : LaneId) : Bool :=
  let ua := ((s.lane a).order.map Order.urgent).getD false
  let ub := ((s.lane b).order.map Order.urgent).getD false
  let sa := ((s.lane a).order.bind Order.closeStamp).getD 0
  let sb := ((s.lane b).order.bind Order.closeStamp).getD 0
  (ua && !ub) || (ua = ub && stampOlder sa sb)

/-- The FILLING lanes in the order of the pass (R63). -/
def State.passLanes (s : State) : List LaneId :=
  sortBy s.laneBefore ((List.finRange 32).filter fun l => (s.lane l).state = .filling)

/-- The allocation pass (R63); it clears the pool-starved flag as it begins (R62). -/
def State.allocationPass (s : State) : State :=
  State.allocLines
    (s.passLanes.flatMap fun l => (List.range (s.lane l).lines.length).map fun i => (l, i))
    { s with starved := false }

end Sys2Proof.Machine
end

