-- ==== Sys2Proof/Machine/Settle.lean ====
section
/-! DEFINITION. Machine/Settle.lean: the permit arbiter (R101, R102) and what follows an operation once it is complete:
the face tests, one allocation pass, selection and the arbiter, in that order (log entry 9). -/

namespace Sys2Proof.Machine

/-! ## Moves -/

/-- The timing profile assigned to a carousel (R33). -/
def State.profileOf (s : State) (c : CarouselId) : TimingProfile := look s.globals.profiles (s.carousel c).cfg.profile

/-- The move timeout of s steps: base time plus s times the step time (R33). -/
def State.moveTimeout (s : State) (c : CarouselId) (steps : Nat) : Nat :=
  (s.profileOf c).baseTime + steps * (s.profileOf c).stepTime

/-- The stop timeout: the base time (R33). -/
def State.stopTimeout (s : State) (c : CarouselId) : Nat := (s.profileOf c).baseTime

/-- The move of a grant and of a RESUME (R102, R108): the last move is written, MOVE is posted to the drive port, the
move timer is loaded and started, and the carousel goes to MOVING. -/
def State.startMove (s : State) (c : CarouselId) (target : Nat) : State :=
  let m := rotation (s.carousel c).cfg.n ((s.motion c).held.getD 0) target
  (s.post (drivePort c) (.move target m.1 m.2)).modMotion c fun x =>
    { x with state := .moving, lastMove := some ⟨m.1, m.2⟩, moveTimer := some (s.moveTimeout c m.2) }

/-! ## The arbiter (6.3) -/

/-- A waiting carousel with its guard latch CLOSED, and the entry stamp of its chosen call (R101). -/
def State.permitStamp? (s : State) (c : CarouselId) : Option Stamp :=
  let m := s.motion c
  if m.state = .waitPermit ∧ m.guardLatch = .closed then
    (m.chosen.bind fun x => (s.carousel c).callFor x.carrier).map Call.stamp
  else none

/-- The carousel the arbiter chooses: the oldest stamp, and between equal stamps the lower number (R101). -/
def State.nextGrant? (s : State) : Option CarouselId :=
  (best? (fun a b => stampOlder a.2 b.2)
    (carouselIds.filterMap fun c => (s.permitStamp? c).map fun x => (c, x))).map Prod.fst

/-- A grant (R102). -/
def State.grant (s : State) (c : CarouselId) : State :=
  match (s.motion c).chosen with
  | none => s
  | some x => s.startMove c x.target

/-- Grants repeat while permits stay free and carousels remain (R101); at most six carousels can wait. -/
def State.arbiterLoop : Nat → State → State
  | 0, s => s
  | fuel + 1, s =>
    if s.freePermits = 0 then s
    else
      match s.nextGrant? with
      | none => s
      | some c => State.arbiterLoop fuel (s.grant c)

def State.arbiter (s : State) : State := State.arbiterLoop 6 s

/-! ## After an operation -/

/-- Nothing is due at the start of an operation. -/
def State.begin (s : State) : State := { s with due := {} }

/-- The test of R87 and R89 at every face, in carousel order, once the operation is complete. -/
def State.settleFaces (s : State) : State := if s.due.face then carouselIds.foldl State.faceTest s else s

/-- One allocation pass for one operation and all its causes (R62, R63); what made it due is spent. -/
def State.settlePass (s : State) : State :=
  if s.due.pass || (s.due.freed && s.starved) then
    { s with due := { s.due with pass := false, freed := false } }.allocationPass
  else s

/-- Selection after the operation and its pass (R80). -/
def State.settleSelect (s : State) : State := if s.due.select then s.selectAll else s

/-- The arbiter, once (R100, R101). -/
def State.settleArbiter (s : State) : State := if s.due.arbiter then s.arbiter else s

/-- Everything that follows an operation. -/
def State.settle (s : State) : State :=
  s.releaseHolds.settleFaces.settlePass.settleSelect.settleArbiter.begin

end Sys2Proof.Machine
end

