-- ==== Sys2Proof/Machine/PutAway.lean ====
section
/-! DEFINITION. Machine/PutAway.lean: the search for a bay (3.2, 3.3), PUT_REQUEST, PUT_CONFIRM and PUT_CANCEL. -/

namespace Sys2Proof.Machine

/-- A pick station may confirm a task only on a carousel assigned to it: S0 to S3 send on L1 to L4 (R46, R90). -/
def State.stationSends (s : State) (p : PortId) (c : CarouselId) : Bool :=
  (s.carousel c).cfg.station.map stationPort = some p

/-! ## The balance test (2.4) -/

/-- The resulting peak of a trial: the largest magnitude of the trial figures (R28). -/
def resultingPeak (n c : Nat) (entries : Vector Int 20) (delta : Int) : Nat :=
  (halfOffsets n).foldl (fun acc k => max acc (shiftedEntry n c delta entries k).natAbs) 0

/-- The placeable count: the first n from n0 downwards that passes, with its resulting peak (R29). -/
def placeable (n c : Nat) (entries : Vector Int 20) (unitMass putLimit : Nat) : Nat → Option (Nat × Nat)
  | 0 => none
  | m + 1 =>
    let peak := resultingPeak n c entries (((m + 1) * unitMass : Nat) : Int)
    if peak ≤ putLimit then some (m + 1, peak) else placeable n c entries unitMass putLimit m

/-! ## Candidates (3.2) -/

/-- Class A: the bay holds the lot. Class B: it is EMPTY (R40). -/
inductive PutClass
  | a | b
  deriving DecidableEq, Repr

/-- A candidate bay with the keys of Table 3-2. -/
structure Candidate where
  bay : BayRef
  cls : PutClass
  count : Nat
  peak : Nat
  preferred : Bool
  steps : Nat
  deriving DecidableEq, Repr

/-- A carousel that offers candidates (R39). -/
def Carousel.takesPuts (x : Carousel) : Bool := x.motion.state.inService && !x.balance.overweight

/-- The class of a bay for a lot and its room (R40); nothing where the bay is marked or of another lot. -/
def State.putRoom (s : State) (lot : Lot) (r : BayRef) : Option (PutClass × Nat) :=
  let b := s.bay r
  let limit := s.stackLimitFor r.carousel lot.width
  if b.auditHold || b.disputed then none
  else
    match b.lot with
    | none => some (.b, limit)
    | some l => if l = lot then some (.a, limit - b.count - b.incoming) else none

/-- The offset key 5 measures from (R42): in MOVING, STOPPING and SUSPENDED the one from which the move started, worked
back from the target and the last move; in every other state the held offset. R97 makes STOPPED's offset the held one of
a SUSPENDED carousel; key 5 does not use it (DEDUCED, log entry 32). -/
def Motion.rankOffset (n : Nat) (m : Motion) : Nat :=
  match m.state.holdsPermit, m.chosen, m.lastMove with
  | true, some k, some w => moveOrigin n k.target w
  | _, _, _ => m.held.getD 0

/-- A bay as a candidate, where it is one (R40, R41), with its distance for key 5 (R42). -/
def State.candidate? (s : State) (lot : Lot) (count : Nat) (pref : Option CarouselId) (r : BayRef) :
    Option Candidate :=
  match s.putRoom lot r with
  | none => none
  | some (cls, room) =>
    let x := s.carousel r.carousel
    let n0 := min count (min room (headroom x.cfg.payloadLimit (s.carrier r.carousel r.carrier).payload lot.unitMass))
    match placeable x.cfg.n r.carrier.val x.balance.entries lot.unitMass x.cfg.putLimit n0 with
    | none => none
    | some (n, peak) =>
      some { bay := r, cls := cls, count := n, peak := peak, preferred := pref = some r.carousel,
             steps := distance x.cfg.n (x.motion.rankOffset x.cfg.n) (targetOffset x.cfg.n r.carrier.val) }

/-- Keys 1 to 5 of Table 3-2; key 6 is the order in which the candidates are listed. -/
def Candidate.better (x y : Candidate) : Bool :=
  if x.cls ≠ y.cls then x.cls = .a
  else if x.count ≠ y.count then x.count > y.count
  else if x.peak ≠ y.peak then x.peak < y.peak
  else if x.preferred ≠ y.preferred then x.preferred
  else x.steps < y.steps

/-- The candidates in order of carousel, carrier and bay (R39 to R41). -/
def State.candidates (s : State) (lot : Lot) (count : Nat) (pref : Option CarouselId) : List Candidate :=
  (s.baysWhere Carousel.takesPuts).filterMap (s.candidate? lot count pref)

/-! ## PUT_REQUEST (3.4) -/

/-- The bay as placement writes it (R11, R44 step 1): the lot into an EMPTY bay, and incoming up by n. -/
def promised (lot : Lot) (n : Nat) (b : Bay) : Bay := { b with lot := some lot, incoming := b.incoming + n }

/-- The put is taken (R44, steps 1 to 3). -/
def State.placePut (s : State) (t : Ticket) (lot : Lot) (x : Candidate) : State :=
  let s1 := s.changeBay x.bay (promised lot x.count)
  let s2 := (s1.storeTask t ⟨.put, x.bay, x.count, none, s1.stamp, .queued⟩).bumpStamp
  (s2.joinPlanner t).dueSelect

/-- PUT_REQUEST (R38, R43, R44). -/
def State.takePutRequest (s : State) (rt : ReplyTo) (lot : Lot) (count : Nat) (pref : Option CarouselId) : State :=
  match s.freeTicket? with
  | none => s.refuse rt .noSpace
  | some t =>
    match best? Candidate.better (s.candidates lot count pref) with
    | none => s.refuse rt .noRoom
    | some x =>
      (s.placePut t lot x).respond rt (if x.count = count then .done else .doneClamped) (putBody t x.bay x.count)

/-! ## Ending a put task -/

/-- PUT_REMAINDER to L0 for tyres of a put that are not stored under its ticket (R48). -/
def State.postRemainder (s : State) (t : Ticket) (lot : Option Lot) (tyres : Nat) : State :=
  s.post stockPort (.putRemainder t ((lot.map Lot.article).getD 0) ((lot.map Lot.week).getD 0) tyres)

/-- A put task's promise is withdrawn and the task freed (R50 steps 1 and 2, R142 step 3, R115). -/
def State.cancelPut (s : State) (t : Ticket) (x : Task) : State := (s.changeBay x.bay (giveBack x)).freeTask t

/-- A put task is trimmed or withdrawn: cancelled with a PUT_REMAINDER for its whole count (R48). -/
def State.handBackPut (s : State) (t : Ticket) (x : Task) : State :=
  (s.cancelPut t x).postRemainder t (s.bay x.bay).lot x.count

/-- The bay after a PUT_CONFIRM of j on a task of n (R47, step 1). -/
def storedBay (j n : Nat) (b : Bay) : Bay := { b with count := b.count + j, incoming := b.incoming - n }

/-- PUT_CONFIRM (R46, R47). The pass runs once its own steps are complete and its response is placed, while the
carrier is still at the face (R49); the face test follows (log entry 8). -/
def State.takePutConfirm (s : State) (rt : ReplyTo) (t : Ticket) (j : Nat) : State :=
  match s.task t with
  | none => s.refuse rt .notAtFace
  | some x =>
    if ¬ s.stationSends rt.port x.bay.carousel then s.refuse rt .notAtFace
    else if x.state = .cancelled then s.refuse rt .withdrawnTask
    else if x.state ≠ .presented then s.refuse rt .notAtFace
    else if x.kind ≠ .put then s.refuse rt .wrongState
    else if j > x.count then s.refuse rt .badRange
    else
      let s1 := (s.changeBay x.bay (storedBay j x.count)).freeTask t
      let s2 := if j < x.count then s1.postRemainder t (s.bay x.bay).lot (x.count - j) else s1
      let s3 := (if j > 0 then s2.duePass else s2).dueFace
      ((s3.releaseHolds).respond rt .done []).settlePass

/-- PUT_CANCEL (R50). -/
def State.takePutCancel (s : State) (rt : ReplyTo) (t : Ticket) : State :=
  match s.task t with
  | none => s.refuse rt .noSuch
  | some x =>
    if x.kind = .put ∧ x.state = .queued then ((s.cancelPut t x).releaseHolds).respond rt .done []
    else s.refuse rt .wrongState

end Sys2Proof.Machine
end

