-- ==== Sys2Proof/Machine/Face.lean ====
section
/-! DEFINITION. Machine/Face.lean: PICK_CONFIRM, FACE_RELEASE and READ_FACE (5.5 to 5.7). -/

namespace Sys2Proof.Machine

/-- The bay after a PICK_CONFIRM of k on a task of m (R91, step 1). -/
def pickedBay (k m : Nat) (b : Bay) : Bay := { b with count := b.count - k, reserved := b.reserved - m }

/-- The bay of a short pick joins the presentation's pending audit (R92). -/
def State.joinShortPick (s : State) (r : BayRef) : State :=
  (s.modFace r.carousel fun p =>
    { p with pendingAudit := mergeScope p.pendingAudit (Scope.single r.bay .shortPick s.globals.shortPickMode) }).dueFace

/-- A short pick (R92): R70 applies to its set, the bay joins the pending audit, and one pass is due. -/
def State.shortPick (s : State) (x : Task) : State :=
  let s1 :=
    match x.work with
    | none => s
    | some w => s.afterReopen w
  (s1.joinShortPick x.bay).duePass

/-- The confirmed pick (R91, steps 1 to 4). -/
def State.confirmPick (s : State) (t : Ticket) (x : Task) (k : Nat) : State :=
  let s1 := s.changeBay x.bay (pickedBay k x.count)
  let s2 :=
    match x.work with
    | none => s1
    | some w => s1.modWork w (Counters.pick k x.count)
  let s3 := (s2.freeTask t).dueFace
  if k < x.count then s3.shortPick x else s3

/-- PICK_CONFIRM (R90, R91): the checks of Table 5-5 from the second on. -/
def State.takePickConfirm (s : State) (rt : ReplyTo) (t : Ticket) (k : Nat) : State :=
  match s.task t with
  | none => s.refuse rt .notAtFace
  | some x =>
    if ¬ s.stationSends rt.port x.bay.carousel then s.refuse rt .notAtFace
    else if x.state = .cancelled then s.refuse rt .withdrawnTask
    else if x.state ≠ .presented then s.refuse rt .notAtFace
    else if x.kind ≠ .pick then s.refuse rt .wrongState
    else if k > x.count then s.refuse rt .badRange
    else ((s.confirmPick t x k).releaseHolds).respond rt .done []

/-- FACE_RELEASE (R93). No FACE_END is posted for a release. -/
def State.takeFaceRelease (s : State) (rt : ReplyTo) (c : CarouselId) (k : CarrierId) : State :=
  let x := s.carousel c
  if ¬ k.val < x.cfg.n then s.refuse rt .noSuch
  else
    match x.face with
    | none => s.refuse rt .wrongState
    | some p =>
      if p.carrier ≠ k then s.refuse rt .wrongState
      else
        let s1 := s.cutPresentation c p true
        (if p.faultFlag then s1.goFaulted c else s1.enterIdle c).respond rt .done []

/-- READ_FACE (R94, R169). -/
def State.takeReadFace (s : State) (rt : ReplyTo) (c : CarouselId) (first : Nat) : State :=
  s.respond rt .done (s.readFaceBody c first)

end Sys2Proof.Machine
end

