-- ==== Sys2Proof/Machine/Audits.lean ====
section
/-! DEFINITION. Machine/Audits.lean: AUDIT_CARRIER, AUDIT_SWEEP, AUDIT_STOP, AUDIT_COUNT, DISC_ACK, RESOLVE and
READ_DISCREPANCY (chapter 8). -/

namespace Sys2Proof.Machine

/-- AUDIT_CARRIER (R131). -/
def State.takeAuditCarrier (s : State) (rt : ReplyTo) (c : CarouselId) (k : CarrierId) (mode : AuditMode) : State :=
  if ¬ k.val < (s.carousel c).cfg.n then s.refuse rt .noSuch
  else if (s.motion c).state = .offline ∨ (s.motion c).state = .withdrawn then s.refuse rt .wrongState
  else (s.raiseScope c k (Scope.whole .carrier mode false)).respond rt .done []

/-- The context a taken AUDIT_SWEEP writes (R132). -/
def newSweep (first : CarrierId) (n : Nat) (rep : Repetition) (il : Interleave) (mode : AuditMode) : SweepContext :=
  { first := first, n := n, repetition := rep, interleave := il, mode := mode, cursor := first, remaining := n }

/-- AUDIT_SWEEP (R132): checks 3 to 6 of Table 8-2. -/
def State.takeAuditSweep (s : State) (rt : ReplyTo) (c : CarouselId) (first : CarrierId) (n : Nat)
    (rep : Repetition) (il : Interleave) (mode : AuditMode) : State :=
  let x := s.carousel c
  if ¬ first.val < x.cfg.n then s.refuse rt .noSuch
  else if n > x.cfg.n then s.refuse rt .badRange
  else if x.motion.state = .offline ∨ x.motion.state = .withdrawn then s.refuse rt .wrongState
  else if x.sweep.isSome then s.refuse rt .busy
  else
    let w := newSweep first n rep il mode
    ((s.setSweep c (some w)).raiseScope c first w.scope).respond rt .done []

/-- A carousel without its sweep (R134): no context, no SWEEP bay in any call, pending audit or deferred scope, the
sweep flag clear on each and on a running phase. -/
def Carousel.withoutSweep (x : Carousel) : Carousel :=
  { x with
    sweep := none,
    calls := x.calls.map fun q => { q with scope := q.scope.bind Scope.withoutSweep },
    face := x.face.map fun p =>
      { p with pendingAudit := p.pendingAudit.bind Scope.withoutSweep, deferred := p.deferred.bind Scope.withoutSweep },
    phase := x.phase.map fun p => { p with sweep := false } }

/-- Calls left with no task content and no scope are removed (R78, R134). -/
def State.pruneCalls (s : State) (c : CarouselId) : State :=
  ((s.carousel c).calls.map Call.carrier).foldl (fun acc k => acc.pruneCall c k) s

/-- AUDIT_STOP (R134). -/
def State.takeAuditStop (s : State) (rt : ReplyTo) (c : CarouselId) : State :=
  if (s.carousel c).sweep.isNone then s.refuse rt .noSuch
  else
    ((((s.modCarousel c Carousel.withoutSweep).pruneCalls c).faceTest c).dueSelect).respond rt .done []

/-! ## Judging a count (Table 8-4) -/

/-- What a count is judged to be. -/
inductive Judgement
  | recount
  | matched
  | discrepancy (unsteady : Bool)
  deriving DecidableEq, Repr

/-- Table 8-4, for the attempt that the count makes. -/
def PhaseBay.judge (x : PhaseBay) (counted : Nat) : Judgement :=
  if counted = x.snapshot then .matched
  else if x.attempt = 0 then .recount
  else if x.attempt = 1 then (if x.first = some counted then .discrepancy false else .recount)
  else if x.first = some counted ∨ x.second = some counted then .discrepancy false
  else .discrepancy true

/-- A count is stored as the first or second count (R139). -/
def PhaseBay.recounted (x : PhaseBay) (counted : Nat) : PhaseBay :=
  if x.attempt = 0 then { x with attempt := 1, first := some counted }
  else { x with attempt := x.attempt + 1, second := some counted }

def PhaseBay.settle (x : PhaseBay) (as : SettledAs) : PhaseBay :=
  { x with attempt := x.attempt + 1, settled := some as }

def State.modPhaseBay (s : State) (c : CarouselId) (b : BayId) (x : PhaseBay) : State :=
  s.modCarousel c fun y => { y with phase := y.phase.map fun p => { p with bays := put p.bays b (some x) } }

/-! ## Making a count the book's (R71, R142 steps 1 to 3) -/

/-- The live tasks of one kind on a bay in QUEUED state. -/
def State.queuedOnBay (s : State) (r : BayRef) (kind : TaskKind) : List (Ticket × Task) :=
  s.allTasks.filter fun p => p.2.state = .queued && p.2.kind = kind && p.2.bay = r

/-- The task with the newest create stamp (R71, R142). -/
def newestTask? : List (Ticket × Task) → Option (Ticket × Task) := best? fun a b => stampOlder b.2.stamp a.2.stamp

/-- Cuts from the newest QUEUED pick task until reserved is at most the count, with the tyres cut (R71, R142 step 2).
Only the tyres cut count; tyres that a set release takes from tasks of the same bay do not (DESIGN CHOICE, log
entry 33). -/
def State.cutExcess (r : BayRef) (counted : Nat) : (fuel cut : Nat) → State → State × Nat
  | 0, cut, s => (s, cut)
  | fuel + 1, cut, s =>
    let excess := (s.bay r).reserved - counted
    if excess = 0 then (s, cut)
    else
      match newestTask? (s.queuedOnBay r .pick) with
      | none => (s, cut)
      | some (t, x) =>
        let a := min excess x.count
        State.cutExcess r counted fuel (cut + a) (s.cutTask t x a)

/-- Put tasks cancelled whole, newest first, until counted + incoming is at most the stack limit, with the tyres
trimmed (R142 step 3). -/
def State.trimPuts (r : BayRef) (counted limit : Nat) : (fuel trimmed : Nat) → State → State × Nat
  | 0, trimmed, s => (s, trimmed)
  | fuel + 1, trimmed, s =>
    if counted + (s.bay r).incoming ≤ limit then (s, trimmed)
    else
      match newestTask? (s.queuedOnBay r .put) with
      | none => (s, trimmed)
      | some (t, x) => State.trimPuts r counted limit fuel (trimmed + x.count) (s.handBackPut t x)

/-- The book after a count, with the tyres cut and trimmed. -/
structure Adjusted where
  state : State
  cut : Nat
  trimmed : Nat

/-- Steps 1 to 3 and 5 of R142, one operation (R9). The stack limit is that of the bay before the change. Each cut and
each trim takes at least one tyre, so a bay's reserved and incoming bound them. -/
def State.adjustBook (s : State) (r : BayRef) (counted : Nat) : Adjusted :=
  let limit := s.stackLimitOf r
  let s1 := s.changeBay r fun b => { b with count := counted }
  let p := State.cutExcess r counted (s1.bay r).reserved 0 s1
  let q := State.trimPuts r counted limit (p.1.bay r).incoming 0 p.1
  ⟨q.1, p.2, q.2⟩

/-! ## Outcomes (R141 to R144) -/

/-- FOUND for an EMPTY bay, SURPLUS above the snapshot, SHORTFALL below it (R141). -/
def discKind (b : Bay) (snapshot counted : Nat) : DiscKind :=
  if b.lot.isNone then .found else if counted > snapshot then .surplus else .shortfall

/-- REVIEW whatever the phase's mode for FOUND, unsteady or above the stack limit (R141). -/
def outcomeMode (mode : AuditMode) (kind : DiscKind) (unsteady : Bool) (counted limit : Nat) : AuditMode :=
  if kind = .found ∨ unsteady ∨ counted > limit then .review else mode

/-- The reserved entry becomes a record at the end of the creation order (R135, R141). -/
def State.writeRecord (s : State) (i : EntryId) (x : DiscRecord) : State :=
  { s.setDisc i (.record x) with discOrder := s.discOrder ++ [i] }

/-- The DISCREPANCY notice to L0 (R141, Table 11-12). -/
def State.postDiscrepancy (s : State) (i : EntryId) (x : DiscRecord) : State :=
  s.post stockPort (.discrepancy i x.bay x.kind x.book x.counted x.state x.cut x.trimmed)

/-- The outcome of a discrepancy (R141): ADJUST (R142) or REVIEW (R143), the record, the notice. Article and week are
those of the bay as the outcome is taken (log entry 19). -/
def State.takeOutcome (s : State) (r : BayRef) (mode : AuditMode) (x : PhaseBay) (counted : Nat) (unsteady : Bool) :
    State :=
  let b := s.bay r
  let kind := discKind b x.snapshot counted
  let base : DiscRecord :=
    { origin := x.origin, bay := r, lot := b.lot.map fun l => (l.article, l.week), book := x.snapshot,
      counted := counted, attempts := x.attempt + 1, kind := kind, unsteady := unsteady, cut := 0, trimmed := 0,
      state := .opened }
  match outcomeMode mode kind unsteady counted (s.stackLimitOf r) with
  | .review =>
    let s1 := s.modBay r fun y => { y with disputed := true, auditHold := false }
    ((s1.writeRecord x.entry base).postDiscrepancy x.entry base).dueSelect
  | .adjust =>
    let a := s.adjustBook r counted
    let rec' : DiscRecord := { base with cut := a.cut, trimmed := a.trimmed, state := .adjusted }
    (((a.state.liftHold r).writeRecord x.entry rec').postDiscrepancy x.entry rec').dueSelect

/-- The phase ends when every one of its bays is settled (R144); with the sweep flag the sweep advances first. -/
def State.endPhaseIfSettled (s : State) (c : CarouselId) : State :=
  match (s.carousel c).phase with
  | none => s
  | some p =>
    if p.unsettled.isEmpty then
      (if p.sweep then (s.setPhase c none).advanceSweep c else s.setPhase c none).dueFace
    else s

/-- A MATCH (R140). -/
def State.takeCountMatch (s : State) (c : CarouselId) (r : BayRef) (x : PhaseBay) : State :=
  (((s.modPhaseBay c r.bay (x.settle .matched)).freeEntry x.entry).liftHold r).endPhaseIfSettled c

/-- A discrepancy (R141). -/
def State.takeCountDiscrepancy (s : State) (c : CarouselId) (r : BayRef) (mode : AuditMode) (x : PhaseBay)
    (counted : Nat) (unsteady : Bool) : State :=
  ((s.modPhaseBay c r.bay (x.settle .discrepancy)).takeOutcome r mode x counted unsteady).endPhaseIfSettled c

/-- The bay of a running phase, with the carrier presented and the phase's mode. -/
def State.phaseBay? (s : State) (c : CarouselId) (b : BayId) : Option (CarrierId × AuditMode × PhaseBay) :=
  match (s.carousel c).face, (s.carousel c).phase with
  | some p, some f =>
    match look f.bays b with
    | none => none
    | some x => if x.settled.isNone then some (p.carrier, f.mode, x) else none
  | _, _ => none

/-- AUDIT_COUNT (R139). -/
def State.takeAuditCount (s : State) (rt : ReplyTo) (c : CarouselId) (b : BayId) (counted : Nat) : State :=
  match s.phaseBay? c b with
  | none => s.refuse rt .wrongState
  | some (k, mode, x) =>
    match x.judge counted with
    | .recount => (s.modPhaseBay c b (x.recounted counted)).respond rt .recount []
    | .matched => ((s.takeCountMatch c ⟨c, k, b⟩ x).releaseHolds).respond rt .done (u8 0 ++ opt8 none)
    | .discrepancy unsteady =>
      ((s.takeCountDiscrepancy c ⟨c, k, b⟩ mode x counted unsteady).releaseHolds).respond rt .done
        (u8 1 ++ u8 x.entry.val)

/-! ## Acknowledging and resolving (8.5) -/

/-- A record leaves the creation order and its entry becomes free (R135). -/
def State.removeRecord (s : State) (i : EntryId) : State :=
  ({ s with discOrder := s.discOrder.filter fun j => j ≠ i } : State).freeEntry i

/-- DISC_ACK (R146). -/
def State.takeDiscAck (s : State) (rt : ReplyTo) (i : EntryId) : State :=
  match s.disc i with
  | .free | .reserved => s.refuse rt .noSuch
  | .record x => if x.state = .opened then s.refuse rt .wrongState else (s.removeRecord i).respond rt .done []

/-- What a taken decision does after the book change (R147): the dispute cleared, the record removed and its entry
freed, the bay's tasks unheld, and one allocation pass due. -/
def State.closeDispute (s : State) (rt : ReplyTo) (i : EntryId) (r : BayRef) : State :=
  ((((((s.modBay r fun b => { b with disputed := false }).dueUnhold).removeRecord i).duePass).releaseHolds)).respond rt
    .done []

/-- The bay as ASSIGN writes it (R11, R147). -/
def assignedBay (lot : Lot) (counted : Nat) (b : Bay) : Bay :=
  { b with lot := some lot, count := counted, reserved := 0, incoming := 0 }

/-- RESOLVE (R147). KEEP_BOOK and ACCEPT_COUNT are for an assigned bay, ASSIGN and CLEAR for an EMPTY one. -/
def State.takeResolve (s : State) (rt : ReplyTo) (i : EntryId) (d : Decision) : State :=
  match s.disc i with
  | .free | .reserved => s.refuse rt .noSuch
  | .record x =>
    if x.state = .adjusted then s.refuse rt .wrongState
    else
      match d, (s.bay x.bay).lot with
      | .keepBook, some _ => s.closeDispute rt i x.bay
      | .acceptCount, some _ =>
        if x.counted > s.stackLimitOf x.bay then s.refuse rt .badRange
        else (s.adjustBook x.bay x.counted).state.closeDispute rt i x.bay
      | .assign lot, none =>
        if x.counted > s.stackLimitFor x.bay.carousel lot.width then s.refuse rt .badRange
        else (s.changeBay x.bay (assignedBay lot x.counted)).closeDispute rt i x.bay
      | .clear, none => s.closeDispute rt i x.bay
      | .keepBook, none => s.refuse rt .wrongState
      | .acceptCount, none => s.refuse rt .wrongState
      | .assign _, some _ => s.refuse rt .wrongState
      | .clear, some _ => s.refuse rt .wrongState

/-- READ_DISCREPANCY (R148): the named record, or the oldest in creation order. -/
def State.takeReadDiscrepancy (s : State) (rt : ReplyTo) (id : Option EntryId) : State :=
  match id with
  | some i =>
    match s.disc i with
    | .free | .reserved => s.refuse rt .noSuch
    | .record x => s.respond rt .done (s.readDiscrepancyBody (some (i, x)))
  | none =>
    match s.discOrder with
    | [] => s.respond rt .done (s.readDiscrepancyBody none)
    | i :: _ =>
      match s.disc i with
      | .free | .reserved => s.respond rt .done (s.readDiscrepancyBody none)
      | .record x => s.respond rt .done (s.readDiscrepancyBody (some (i, x)))

end Sys2Proof.Machine
end

