-- ==== Sys2Proof/Machine/Lanes.lean ====
section
/-! DEFINITION. Machine/Lanes.lean: ARRIVAL, STRAY_CLEAR, LANE_RELEASE and LANE_EMPTY (chapter 7). -/

namespace Sys2Proof.Machine

/-- Where an arrival is matched: a line, and for a matched line one of its sets. -/
structure Match where
  line : Nat
  set : Option Nat
  deriving DecidableEq, Repr

/-- A line takes a tyre of this article and week, and for a matched line the first set that takes it (R119). -/
def Line.accepts (article week : Nat) (x : Line) : Option (Option Nat) :=
  if x.article ≠ article then none
  else
    match x.body with
    | .unmatched t => if t.transit > 0 then some none else none
    | .matched sets =>
      (sets.findIdx? fun r => r.week = some week && r.tyres.transit > 0).map some

/-- The first line in list order that takes the tyre (R119); `i` is the index of the first line given. -/
def findMatch (article week : Nat) : (i : Nat) → List Line → Option Match
  | _, [] => none
  | i, x :: rest =>
    match x.accepts article week with
    | some set => some ⟨i, set⟩
    | none => findMatch article week (i + 1) rest

/-- Every line's arrived count equals its quantity and no stray is counted (R121). -/
def Lane.whole (x : Lane) : Bool := x.lines.all (fun y => y.tyres.arrived = y.quantity) && x.strays = 0

/-- The test of R121: a whole FILLING lane goes to COMPLETE with LANE_STATE to L11 and L0. -/
def State.testComplete (s : State) (l : LaneId) : State :=
  if (s.lane l).state = .filling ∧ (s.lane l).whole then
    (s.modLane l fun y => { y with state := .complete }).postLaneStateBoth l
  else s

/-- The drain of R123: a CANCELLING lane with no tyre in transit goes to CANCELLED. -/
def State.testDrained (s : State) (l : LaneId) : State :=
  if (s.lane l).state = .cancelling ∧ (s.lane l).lines.all (fun y => y.tyres.transit = 0) then
    (s.modLane l fun y => { y with state := .cancelled }).postLaneStateBoth l
  else s

/-- A match moves one tyre from transit to arrived (R120), and the lane is tested. -/
def State.takeMatch (s : State) (l : LaneId) (x : Match) : State :=
  ((s.modLine l x.line (Line.modTyres x.set Counters.arrive)).testComplete l).testDrained l

/-- A stray (R124): the count rises to at most 15, STRAY to L11 and L0, and a COMPLETE lane goes back to FILLING. -/
def State.takeStray (s : State) (l : LaneId) (article week : Nat) : State :=
  let n := min Config.strayCap ((s.lane l).strays + 1)
  let before := (s.lane l).state
  let after := if before = .complete then LaneState.filling else before
  let s1 := s.modLane l fun y => { y with strays := n, state := after }
  let s2 := (s1.post lanePort (.stray l article week n after)).post stockPort (.stray l article week n after)
  if before = .complete then s2.postLaneStateBoth l else s2

/-- In FILLING and CANCELLING lines await tyres; the lines of any other lane have none in transit (R119). -/
def State.takeArrival (s : State) (rt : ReplyTo) (l : LaneId) (article week : Nat) : State :=
  match findMatch article week 0 (s.lane l).lines with
  | some x => (s.takeMatch l x).respond rt .done (u8 x.line ++ opt8 x.set ++ u8 0)
  | none => (s.takeStray l article week).respond rt .done [0xFF, 0xFF, 1]

/-- STRAY_CLEAR (R125). -/
def State.takeStrayClear (s : State) (rt : ReplyTo) (l : LaneId) (n : Nat) : State :=
  let left := (s.lane l).strays - n
  let s1 := if (s.lane l).strays = 0 then s else (s.modLane l fun y => { y with strays := left }).testComplete l
  s1.respond rt .done (u8 left)

/-- LANE_RELEASE (R126). -/
def State.takeLaneRelease (s : State) (rt : ReplyTo) (l : LaneId) : State :=
  let x := s.lane l
  if x.strays ≠ 0 then s.refuse rt .wrongState
  else
    match x.state with
    | .complete =>
      (s.modLane l fun y => { y with state := .released, releasedFrom := some .complete }).respond rt .done []
    | .cancelled =>
      (s.modLane l fun y => { y with state := .released, releasedFrom := some .cancelled }).respond rt .done []
    | .free | .opened | .filling | .cancelling | .released => s.refuse rt .wrongState

/-- DISPATCHED from COMPLETE, CLEARED from CANCELLED (R127). -/
def orderEndOf : Option ReleasedFrom → OrderEnd
  | some .cancelled => .cleared
  | some .complete => .dispatched
  | none => .dispatched

/-- LANE_EMPTY (R127). -/
def State.takeLaneEmpty (s : State) (rt : ReplyTo) (l : LaneId) : State :=
  let x := s.lane l
  if x.state = .released then
    ((s.post stockPort (.orderState l ((x.order.map Order.ref).getD 0) (orderEndOf x.releasedFrom))).modLane l
      fun _ => Lane.cleared).respond rt .done []
  else s.refuse rt .wrongState

end Sys2Proof.Machine
end

