-- ==== Sys2Proof/Machine/Orders.lean ====
section
/-! DEFINITION. Machine/Orders.lean: ORDER_OPEN, ORDER_LINES, ORDER_CANCEL, READ_LANE and the order-open timer
(chapter 4). -/

namespace Sys2Proof.Machine

/-- ORDER_OPEN (R53). -/
def State.takeOrderOpen (s : State) (rt : ReplyTo) (l : LaneId) (ref : BitVec 32) (urgent : Bool) : State :=
  let x := s.lane l
  if x.state = .free ∧ x.strays = 0 then
    (s.modLane l fun y =>
      { y with state := .opened, order := some ⟨ref, urgent, [], none⟩,
               timer := some s.globals.orderOpenTime }).respond rt .done []
  else s.refuse rt .wrongState

/-- A new line record: every tyre open, every set unbound and OPEN, no WAITING mark (R57, R60). -/
def newLineOf (x : LineSpec) : Line :=
  { article := x.article, quantity := x.quantity, setSize := x.setSize, minWeek := x.minWeek, waiting := false,
    body :=
      if x.setSize = 1 then .unmatched ⟨x.quantity, 0, 0, 0⟩
      else .matched (List.replicate (x.quantity / x.setSize) ⟨none, ⟨x.setSize, 0, 0, 0⟩⟩) }

/-- The tyres of some lines (Table 4-3, check 5). -/
def totalTyres (quantities : List Nat) : Nat := quantities.foldl (· + ·) 0

/-- The lines appended and the timer started again (R54). -/
def State.appendLines (s : State) (l : LaneId) (lines : List LineSpec) : State :=
  s.modLane l fun y =>
    { (y.modLines fun ls => ls ++ lines.map newLineOf) with timer := some s.globals.orderOpenTime }

/-- The close of an order (R55): timer stopped, close stamp taken, FILLING; an allocation pass is due. -/
def State.closeOrder (s : State) (l : LaneId) : State :=
  ((s.modLane l fun y =>
    { y with state := .filling, timer := none,
             order := y.order.map fun o => { o with closeStamp := some s.stamp } }).bumpStamp).duePass

/-- ORDER_LINES (R54): checks 3 to 5 of Table 4-3. -/
def State.takeOrderLines (s : State) (rt : ReplyTo) (l : LaneId) (final : Bool) (lines : List LineSpec) : State :=
  let x := s.lane l
  if x.state ≠ .opened then s.refuse rt .wrongState
  else if x.lines.length + lines.length > Config.linesPerOrder then s.refuse rt .noSpace
  else if totalTyres (x.lines.map Line.quantity) + totalTyres (lines.map LineSpec.quantity) > s.globals.laneCapacity
  then s.refuse rt .noSpace
  else
    let s' := s.appendLines l lines
    (if final then s'.closeOrder l else s').respond rt .done []

/-- A lane goes to FREE and its order is discarded; the stray count stays (R56, R72). -/
def Lane.discard (x : Lane) : Lane := { x with state := .free, order := none, timer := none }

/-- A set of a cancelled order (R72): its allocated tyres go back to open, and it is unbound where nothing of it is in
transit or arrived. -/
def SetRecord.cancel (x : SetRecord) : SetRecord :=
  { week := if x.tyres.transit = 0 ∧ x.tyres.arrived = 0 then none else x.week,
    tyres := x.tyres.reopen x.tyres.allocated }

/-- A line of a cancelled order (R72): allocated back to open, no WAITING mark. -/
def Line.cancel (x : Line) : Line :=
  { x with
    waiting := false,
    body :=
      match x.body with
      | .unmatched t => .unmatched (t.reopen t.allocated)
      | .matched sets => .matched (sets.map SetRecord.cancel) }

/-- Every live pick task of the lane is taken away (R72). -/
def State.takeAwayAll (s : State) (l : LaneId) : State :=
  (s.pickTasks l fun _ => true).foldl (fun acc q => acc.takeAway q.1 q.2) s

/-- Where a cancelled FILLING lane goes (R72): CANCELLING with any tyre in transit, CANCELLED with any arrived,
otherwise FREE. -/
def cancelTarget (lines : List Line) : LaneState :=
  if lines.any fun x => x.tyres.transit > 0 then .cancelling
  else if lines.any fun x => x.tyres.arrived > 0 then .cancelled
  else .free

/-- The cancel of a FILLING lane (R72). -/
def State.cancelFilling (s : State) (l : LaneId) : State :=
  let s1 := (s.takeAwayAll l).modLane l (Lane.modLines fun ls => ls.map Line.cancel)
  match cancelTarget (s1.lane l).lines with
  | .free => s1.modLane l Lane.discard
  | x => (s1.modLane l fun y => { y with state := x }).postLaneState lanePort l

/-- ORDER_CANCEL (R72). -/
def State.takeOrderCancel (s : State) (rt : ReplyTo) (l : LaneId) : State :=
  match (s.lane l).state with
  | .opened => (s.modLane l Lane.discard).respond rt .done []
  | .filling => (s.cancelFilling l).respond rt .done []
  | .complete => ((s.modLane l fun y => { y with state := .cancelled }).postLaneState lanePort l).respond rt .done []
  | .free | .cancelling | .cancelled | .released => s.refuse rt .wrongState

/-- READ_LANE (R74, R169): part 0 is the header with every line, part p the sets of line p − 1. -/
def State.takeReadLane (s : State) (rt : ReplyTo) (l : LaneId) (p : Nat) : State :=
  s.respond rt .done (if p = 0 then s.readLaneHead l else s.readLanePart l p)

/-- The order-open timer of an OPEN lane expires (R56); a stopped timer does not expire (log entry 17). -/
def State.expireOrderOpen (s : State) (l : LaneId) : State :=
  let x := s.lane l
  if x.state = .opened ∧ x.timer.isSome then
    (s.modLane l Lane.discard).post stockPort (.orderState l ((x.order.map Order.ref).getD 0) .dropped)
  else s

end Sys2Proof.Machine
end

