-- ==== Sys2Proof/Machine/Stock.lean ====
section
/-! DEFINITION. Machine/Stock.lean: LOAD_BAY, READ_BAY, READ_CARRIER and FIND_LOTS (1.7). -/

namespace Sys2Proof.Machine

/-- A carousel out of service, whose book may be loaded and items set (R15, R159). -/
def MotionState.outOfService : MotionState → Bool
  | .offline | .withdrawn => true
  | .unsynced | .idle | .waitPermit | .moving | .stopping | .suspended | .presenting | .faulted => false

/-- The bay as LOAD_BAY writes it (R11, R16): the lot and count given, EMPTY for a count of 0; the marks stay. -/
def loadedBay (lot : Option Lot) (count : Nat) (b : Bay) : Bay :=
  if count = 0 then { b with lot := none, count := 0, reserved := 0, incoming := 0 }
  else { b with lot := lot, count := count, reserved := 0, incoming := 0 }

/-- The carrier's planned payload after the load (Table 1-5, check 6). -/
def State.loadedPayload (s : State) (r : BayRef) (lot : Option Lot) (count : Nat) : Nat :=
  (s.carrier r.carousel r.carrier).payload - (s.bay r).mass + (loadedBay lot count (s.bay r)).mass

/-- LOAD_BAY (R15, R16): the checks of Table 1-5 from the second on, then one change of the bay. -/
def State.takeLoadBay (s : State) (rt : ReplyTo) (r : BayRef) (lot : Option Lot) (count : Nat) : State :=
  let x := s.carousel r.carousel
  if ¬ r.carrier.val < x.cfg.n then s.refuse rt .noSuch
  else if ¬ x.motion.state.outOfService then s.refuse rt .wrongState
  else if (s.bay r).disputed then s.refuse rt .wrongState
  else if count > s.stackLimitFor r.carousel ((lot.map Lot.width).getD 1) then s.refuse rt .badRange
  else if s.loadedPayload r lot count > x.cfg.payloadLimit then s.refuse rt .badRange
  else (s.changeBay r (loadedBay lot count)).respond rt .done []

/-- READ_BAY (R17). -/
def State.takeReadBay (s : State) (rt : ReplyTo) (r : BayRef) : State :=
  if ¬ r.carrier.val < (s.carousel r.carousel).cfg.n then s.refuse rt .noSuch
  else s.respond rt .done (s.readBayBody r)

/-- READ_CARRIER (R18). -/
def State.takeReadCarrier (s : State) (rt : ReplyTo) (c : CarouselId) (k : CarrierId) : State :=
  if ¬ k.val < (s.carousel c).cfg.n then s.refuse rt .noSuch else s.respond rt .done (s.readCarrierBody c k)

/-- The assigned bays of an article on carriers in use, whatever the carousel's state and the bay's marks (R19). -/
def State.baysOfArticle (s : State) (article : Nat) : List BayRef :=
  (s.baysWhere fun _ => true).filter fun r => ((s.bay r).lot.map Lot.article) = some article

/-- The week of an assigned bay. -/
def State.weekOf (s : State) (r : BayRef) : Nat := ((s.bay r).lot.map Lot.week).getD 0

/-- The distinct weeks of some bays, oldest first. -/
def distinctWeeks (weeks : List Nat) : List Nat := sortBy (fun a b => a < b) weeks.eraseDups

/-- One entry of FIND_LOTS: week, total count, total free, bays (R19, Table 11-7). -/
def State.lotEntry (s : State) (bays : List BayRef) (w : Nat) : List Byte :=
  let mine := bays.filter fun r => s.weekOf r = w
  u16 w ++ u16 (mine.foldl (fun acc r => acc + (s.bay r).count) 0)
    ++ u16 (mine.foldl (fun acc r => acc + (s.bay r).free) 0) ++ u16 mine.length

/-- The response of FIND_LOTS: the distinct weeks found, and an entry for each of the oldest eight (R19). -/
def State.findLotsBody (s : State) (article : Nat) : List Byte :=
  let bays := s.baysOfArticle article
  let weeks := distinctWeeks (bays.map s.weekOf)
  let sent := weeks.take Config.weeksReturned
  u16 weeks.length ++ u8 sent.length ++ sent.flatMap (s.lotEntry bays)

/-- FIND_LOTS (R19). -/
def State.takeFindLots (s : State) (rt : ReplyTo) (article : Nat) : State :=
  s.respond rt .done (s.findLotsBody article)

end Sys2Proof.Machine
end

