-- ==== Sys2Proof/Machine/Motion.lean ====
section
/-! DEFINITION. Machine/Motion.lean: ENROL, HOLD, the drive reports, RESUME, WITHDRAW, guard changes and the move and
stop timers (chapter 6). -/

namespace Sys2Proof.Machine

/-- The carousel whose drive sends on a port, L5 for C0 up to L10 for C5 (R99). -/
def driveCarousel (p : PortId) : CarouselId := Fin.ofNat 6 (p.val - 5)

/-! ## ENROL and HOLD -/

/-- UNSYNCED with no held offset, no cause and no timer (R98, R112). The HOLD flag and the latch stay. -/
def Motion.unsync (m : Motion) : Motion := { m.rest .unsynced with held := none, fault := none }

/-- ENROL (R98). -/
def State.takeEnrol (s : State) (rt : ReplyTo) (c : CarouselId) : State :=
  let x := s.carousel c
  if x.motion.state.outOfService ∧ x.cfg.station.isSome then
    ((s.modMotion c Motion.unsync).postCarousel c).respond rt .done []
  else s.refuse rt .wrongState

/-- HOLD on (R114): in WAIT_PERMIT the choice is dropped and the carousel returns to IDLE. -/
def State.holdOn (s : State) (c : CarouselId) : State :=
  s.modMotion c fun m =>
    if m.state = .waitPermit then { m with hold := true, state := .idle, chosen := none } else { m with hold := true }

/-- HOLD off (R114): in IDLE selection runs; off on a carousel not held changes nothing. -/
def State.holdOff (s : State) (c : CarouselId) : State :=
  if (s.motion c).hold then (s.modMotion c fun m => { m with hold := false }).dueSelect else s

/-- HOLD (R114). -/
def State.takeHold (s : State) (rt : ReplyTo) (c : CarouselId) (on : Bool) : State :=
  (if on then s.holdOn c else s.holdOff c).respond rt .done []

/-! ## Drive reports -/

/-- The first POSITION of an UNSYNCED carousel (R99, R113): held offset, IDLE, CAROUSEL notice; one pass and a
selection are due. -/
def State.synchronise (s : State) (c : CarouselId) (offset : Nat) : State :=
  (((s.modMotion c fun m => { m.rest .idle with held := some offset }).postCarousel c).duePass).dueSelect

/-- A misposition of a PRESENTING carousel (R110). -/
def State.mispositionFace (s : State) (c : CarouselId) (p : Presentation) : State :=
  ((s.cutPresentation c p false).postStation c (.faceEnd c p.carrier)).enterFaulted c .misposition

/-- A POSITION that disagrees with the held offset of a carousel at rest (R99, R110). -/
def State.misposition (s : State) (c : CarouselId) : State :=
  match (s.carousel c).face with
  | some p => s.mispositionFace c p
  | none => s.enterFaulted c .misposition

/-- POSITION (R99). -/
def State.takePosition (s : State) (rt : ReplyTo) (c : CarouselId) (offset : Nat) : State :=
  if ¬ offset < (s.carousel c).cfg.n then s.refuse rt .badRange
  else
    match (s.motion c).state with
    | .offline | .faulted | .withdrawn => s.refuse rt .wrongState
    | .unsynced => (s.synchronise c offset).respond rt .done []
    | .moving | .stopping => s.respond rt .done []
    | .idle | .waitPermit | .suspended | .presenting =>
      (if (s.motion c).held = some offset then s else s.misposition c).respond rt .done []

/-- The end of a move at the target (R103): the offset is held, the permit is returned and the presentation of the
chosen carrier starts. -/
def State.arriveAt (s : State) (c : CarouselId) (x : Choice) : State :=
  (s.modMotion c fun m => { m with held := some x.target, moveTimer := none, stopTimer := none }).startPresentation c
    x.carrier

/-- ARRIVED taken in MOVING or STOPPING (R103). -/
def State.arrive (s : State) (c : CarouselId) (offset : Nat) : State :=
  match (s.motion c).chosen with
  | none => s.enterFaulted c .misposition
  | some x => if x.target = offset then s.arriveAt c x else s.enterFaulted c .misposition

/-- ARRIVED (R103). -/
def State.takeArrived (s : State) (rt : ReplyTo) (c : CarouselId) (offset : Nat) : State :=
  if ¬ offset < (s.carousel c).cfg.n then s.refuse rt .badRange
  else
    match (s.motion c).state with
    | .moving | .stopping => (s.arrive c offset).respond rt .done []
    | .offline | .unsynced | .idle | .waitPermit | .suspended | .presenting | .faulted | .withdrawn =>
      s.refuse rt .wrongState

/-- STOPPED (R107). -/
def State.takeStopped (s : State) (rt : ReplyTo) (c : CarouselId) (offset : Nat) : State :=
  if ¬ offset < (s.carousel c).cfg.n then s.refuse rt .badRange
  else if (s.motion c).state = .stopping then
    (s.modMotion c fun m => { m with state := .suspended, held := some offset, stopTimer := none }).respond rt .done []
  else s.refuse rt .wrongState

/-- FAULT in PRESENTING (R111): the fault flag and the cause; the presentation goes on. -/
def State.flagFault (s : State) (c : CarouselId) (code : Nat) : State :=
  (s.modMotion c fun m => { m with fault := some (.drive code) }).modFace c fun p => { p with faultFlag := true }

/-- FAULT (R111). -/
def State.takeFault (s : State) (rt : ReplyTo) (c : CarouselId) (code : Nat) : State :=
  match (s.motion c).state with
  | .offline | .withdrawn => s.refuse rt .wrongState
  | .unsynced | .idle | .waitPermit | .moving | .stopping | .suspended =>
    (s.enterFaulted c (.drive code)).respond rt .done []
  | .presenting => (s.flagFault c code).respond rt .done []
  | .faulted => (s.modMotion c fun m => { m with fault := some (.drive code) }).respond rt .done []

/-- READY (R112). -/
def State.takeReady (s : State) (rt : ReplyTo) (c : CarouselId) : State :=
  if (s.motion c).state = .faulted then ((s.modMotion c Motion.unsync).postCarousel c).respond rt .done []
  else s.refuse rt .wrongState

/-! ## RESUME -/

/-- A taken RESUME (R108): a new MOVE, or the presentation where the carousel stopped at the target itself. -/
def State.resumeMove (s : State) (c : CarouselId) (x : Choice) : State :=
  if distance (s.carousel c).cfg.n ((s.motion c).held.getD 0) x.target = 0 then s.startPresentation c x.carrier
  else s.startMove c x.target

/-- RESUME (R108). A SUSPENDED carousel always has a choice (Table 6-1). -/
def State.takeResume (s : State) (rt : ReplyTo) (c : CarouselId) : State :=
  if (s.motion c).state = .suspended ∧ (s.motion c).guardLatch = .closed then
    match (s.motion c).chosen with
    | none => s.refuse rt .wrongState
    | some x => (s.resumeMove c x).respond rt .done []
  else s.refuse rt .wrongState

/-! ## WITHDRAW (R115) -/

/-- Steps 1 and 5 of R115 for the motion record: STOP where the carousel is MOVING or STOPPING, the permit returned,
everything but the HOLD flag and the latch cleared. The state is written first, so that a notice of an OVERWEIGHT
change on the way carries it (R113, log entry 15). -/
def State.withdrawMotion (s : State) (c : CarouselId) : State :=
  let old := (s.motion c).state
  let s1 := if old = .moving ∨ old = .stopping then s.post (drivePort c) .stop else s
  (s1.modMotion c fun m => { m.rest .withdrawn with held := none, fault := none }).returnPermit old

/-- A tombstone's tyres after a withdrawal (R115 step 2): a pick's go back to open with R70 applied to its set, a
put's are handed back (R48). -/
def State.withdrawPresented (s : State) (t : Ticket) : State :=
  match s.task t with
  | none => s
  | some x =>
    match x.state with
    | .queued | .cancelled => s
    | .presented =>
      match x.kind, x.work with
      | .pick, some w => ((s.entomb t x).modWork w (Counters.reopen x.count)).afterReopen w
      | .pick, none => s.entomb t x
      | .put, _ => (s.entomb t x).postRemainder t (s.bay x.bay).lot x.count

/-- Step 2 of R115: tombstones made and freed, the phase abandoned, FACE_END posted. -/
def State.withdrawFace (s : State) (c : CarouselId) : State :=
  match (s.carousel c).face with
  | none => s
  | some p =>
    let s1 := (s.presentedOn c).foldl (fun acc q => acc.withdrawPresented q.1) s
    (((s1.freeTombstones c).clearPhase c p.carrier).postStation c (.faceEnd c p.carrier)).modCarousel c fun x =>
      { x with face := none }

/-- A QUEUED task of a withdrawn carousel (R115 step 3): a pick is cut whole, a put is handed back. -/
def State.withdrawQueued (s : State) (t : Ticket) : State :=
  match s.task t with
  | none => s
  | some x =>
    match x.state, x.kind with
    | .queued, .pick => s.cutTask t x x.count
    | .queued, .put => s.handBackPut t x
    | .presented, _ => s
    | .cancelled, _ => s

/-- The tickets of one kind on the bays of a carousel, in ticket order (log entry 20). -/
def State.ticketsOn (s : State) (c : CarouselId) (kind : TaskKind) : List Ticket :=
  (s.allTasks.filter fun p => p.2.kind = kind && p.2.bay.carousel = c).map Prod.fst

/-- Step 3 of R115: every QUEUED pick, then every QUEUED put. -/
def State.withdrawQueue (s : State) (c : CarouselId) : State :=
  let s1 := (s.ticketsOn c .pick).foldl State.withdrawQueued s
  (s1.ticketsOn c .put).foldl State.withdrawQueued s1

/-- Step 4 of R115: calls dropped, the sweep abandoned. -/
def State.withdrawCalls (s : State) (c : CarouselId) : State :=
  let s1 := s.modCarousel c fun x => { x with calls := [], sweep := none }
  if (s.carousel c).sweep.isSome then s1.post stockPort (.auditDone c .abandoned) else s1

/-- WITHDRAW (R115); one allocation pass is due. -/
def State.takeWithdraw (s : State) (rt : ReplyTo) (c : CarouselId) : State :=
  if (s.motion c).state.outOfService then s.refuse rt .wrongState
  else
    ((((((s.withdrawMotion c).withdrawFace c).withdrawQueue c).withdrawCalls c).postCarousel c).duePass).respond rt
      .done []

/-! ## Guard lines (R105, R106) -/

/-- A guard opening taken in MOVING (R106): STOP, the move timer cancelled, the stop timer started. -/
def State.guardStop (s : State) (c : CarouselId) : State :=
  (s.post (drivePort c) .stop).modMotion c fun m =>
    { m with state := .stopping, moveTimer := none, stopTimer := some (s.stopTimeout c) }

/-- The effect of a guard change event (R105, R106). -/
def State.guardEffect (s : State) (c : CarouselId) (level : GuardLevel) : State :=
  match level with
  | .closed => s.dueArbiter
  | .opened => if (s.motion c).state = .moving then s.guardStop c else s

/-- The filtered level of a guard line changes: an event where it differs from the latch (R105). -/
def State.guardEvent (s : State) (c : CarouselId) (level : GuardLevel) : State :=
  if level = (s.motion c).guardLatch then s
  else (s.modMotion c fun m => { m with guardLatch := level }).guardEffect c level

def State.setGuardLine (s : State) (c : CarouselId) (level : GuardLevel) : State :=
  s.modCarousel c fun x => { x with guardLine := level }

/-! ## Timers (R104, R107) -/

/-- The move timer expires in MOVING (R104); a stopped timer does not expire (log entry 17). -/
def State.expireMove (s : State) (c : CarouselId) : State :=
  if (s.motion c).state = .moving ∧ (s.motion c).moveTimer.isSome then
    (s.post (drivePort c) .stop).enterFaulted c .timeout
  else s

/-- The stop timer expires in STOPPING (R107). No second STOP is posted. -/
def State.expireStop (s : State) (c : CarouselId) : State :=
  if (s.motion c).state = .stopping ∧ (s.motion c).stopTimer.isSome then s.enterFaulted c .timeout else s

/-- A stop timer loaded with 0 has run out (R104, R107). -/
def State.stopRunOut (s : State) (c : CarouselId) : Bool := (s.motion c).stopTimer = some 0

end Sys2Proof.Machine
end

