-- ==== Sys2Proof/Machine/StartUp.lean ====
section
/-! DEFINITION. Machine/StartUp.lean: CONFIGURE, READ_STATUS, READ_CAROUSEL and RESTART, the warm restart (R164) and
power-on (R162). -/

namespace Sys2Proof.Machine

/-! ## CONFIGURE (Table 10-3) -/

/-- The carousel of a per-carousel item (Table 10-1). -/
def itemCarousel? : ConfigItem → Option CarouselId
  | .carrierCount c | .bayHeight c | .payloadLimit c | .putLimit c | .hardLimit c | .timingProfile c | .station c =>
    some c
  | .baseTime _ | .stepTime _ | .permits | .laneCapacity | .orderOpenTime | .shortPickMode => none

/-- Check 2: the ranges of Tables 10-1 and 10-2; the whole four-byte value is read (R168). -/
def itemInRange (v : Nat) : ConfigItem → Bool
  | .carrierCount _ => v % 2 = 0 && 8 ≤ v && v ≤ 40
  | .bayHeight _ => 200 ≤ v && v ≤ 1500
  | .payloadLimit _ => 100 ≤ v && v ≤ 8000
  | .putLimit _ => v ≤ 160000
  | .hardLimit _ => v ≤ 160000
  | .timingProfile _ => v ≤ 3
  | .station _ => v ≤ 3 || v = 255
  | .baseTime _ => v ≤ 600
  | .stepTime _ => 1 ≤ v && v ≤ 255
  | .permits => 1 ≤ v && v ≤ 6
  | .laneCapacity => 4 ≤ v && v ≤ 64
  | .orderOpenTime => 100 ≤ v && v ≤ 6000
  | .shortPickMode => v ≤ 1

/-- Check 3: the carousel is OFFLINE or WITHDRAWN; for lane capacity every lane is FREE. -/
def State.itemIdle (s : State) (item : ConfigItem) : Bool :=
  match itemCarousel? item with
  | some c => (s.motion c).state.outOfService
  | none => item ≠ ConfigItem.laneCapacity || s.lanesIn .free = 32

/-- Check 4: every bay of carriers 0 to 39 is EMPTY and carries no DISPUTED mark. -/
def Carousel.bare (x : Carousel) : Bool :=
  x.carriers.all fun k => k.bays.all fun b => b.lot.isNone && !b.disputed

/-- Check 5 for bay height: no assigned bay with count + incoming above its new stack limit. -/
def Carousel.fitsHeight (x : Carousel) (height : Nat) : Bool :=
  x.carriers.all fun k => k.bays.all fun b =>
    match b.lot with
    | none => true
    | some lot => b.count + b.incoming ≤ stackLimit height lot.width

/-- Check 5. -/
def State.itemFits (s : State) (v : Nat) : ConfigItem → Bool
  | .bayHeight c => (s.carousel c).fitsHeight v
  | .putLimit c => v ≤ (s.carousel c).cfg.hardLimit
  | .hardLimit c => (s.carousel c).cfg.putLimit ≤ v
  | .carrierCount _ | .payloadLimit _ | .timingProfile _ | .station _ | .baseTime _ | .stepTime _ | .permits
  | .laneCapacity | .orderOpenTime | .shortPickMode => true

/-- A carousel using a timing profile holds a permit. -/
def State.profileBusy (s : State) (p : ProfileId) : Bool :=
  carouselIds.any fun c => (s.carousel c).cfg.profile = p && (s.motion c).state.holdsPermit

/-- Check 6. -/
def State.itemBusy (s : State) : ConfigItem → Bool
  | .baseTime p => s.profileBusy p
  | .stepTime p => s.profileBusy p
  | .permits => s.permitsHeld ≠ 0
  | .carrierCount _ | .bayHeight _ | .payloadLimit _ | .putLimit _ | .hardLimit _ | .timingProfile _ | .station _
  | .laneCapacity | .orderOpenTime | .shortPickMode => false

def State.modCfg (s : State) (c : CarouselId) (f : CarouselConfig → CarouselConfig) : State :=
  s.modCarousel c fun x => { x with cfg := f x.cfg }

def State.modGlobals (s : State) (f : Globals → Globals) : State := { s with globals := f s.globals }

/-- A new N: the half-profile is zeroed, peak and peak offset with it, and OVERWEIGHT tested (R37). -/
def State.setCarrierCount (s : State) (c : CarouselId) (v : Nat) : State :=
  ((s.modCfg c fun g => { g with n := v }).modCarousel c fun x =>
    { x with balance := { Balance.zero with overweight := x.balance.overweight } }).testOverweight c

/-- A station value: 0 to 3, or 255 for none (R168). -/
def stationOf (v : Nat) : Option StationId := if v = 255 then none else some (Fin.ofNat 4 v)

/-- The item is written (R160, R161). -/
def State.writeItem (s : State) (v : Nat) : ConfigItem → State
  | .carrierCount c => s.setCarrierCount c v
  | .bayHeight c => s.modCfg c fun g => { g with bayHeight := v }
  | .payloadLimit c => s.modCfg c fun g => { g with payloadLimit := v }
  | .putLimit c => s.modCfg c fun g => { g with putLimit := v }
  | .hardLimit c => (s.modCfg c fun g => { g with hardLimit := v }).testOverweight c
  | .timingProfile c => s.modCfg c fun g => { g with profile := Fin.ofNat 4 v }
  | .station c => s.modCfg c fun g => { g with station := stationOf v }
  | .baseTime p => s.modGlobals fun g => { g with profiles := put g.profiles p { look g.profiles p with baseTime := v } }
  | .stepTime p => s.modGlobals fun g => { g with profiles := put g.profiles p { look g.profiles p with stepTime := v } }
  | .permits => (s.modGlobals fun g => { g with permits := v }).dueArbiter
  | .laneCapacity => s.modGlobals fun g => { g with laneCapacity := v }
  | .orderOpenTime => s.modGlobals fun g => { g with orderOpenTime := v }
  | .shortPickMode => s.modGlobals fun g => { g with shortPickMode := if v = 1 then .review else .adjust }

/-- The carrier-count item of a carousel that is not bare fails check 4. -/
def State.itemBare (s : State) : ConfigItem → Bool
  | .carrierCount c => (s.carousel c).bare
  | .bayHeight _ | .payloadLimit _ | .putLimit _ | .hardLimit _ | .timingProfile _ | .station _ | .baseTime _
  | .stepTime _ | .permits | .laneCapacity | .orderOpenTime | .shortPickMode => true

/-- CONFIGURE (R159): checks 2 to 6 of Table 10-3. -/
def State.takeConfigure (s : State) (rt : ReplyTo) (item : ConfigItem) (v : Nat) : State :=
  if ¬ itemInRange v item then s.refuse rt .badRange
  else if ¬ s.itemIdle item then s.refuse rt .wrongState
  else if ¬ s.itemBare item then s.refuse rt .wrongState
  else if ¬ s.itemFits v item then s.refuse rt .badRange
  else if s.itemBusy item then s.refuse rt .busy
  else (s.writeItem v item).respond rt .done []

/-! ## Status requests -/

/-- READ_STATUS (R165). -/
def State.takeReadStatus (s : State) (rt : ReplyTo) : State := s.respond rt .done s.readStatusBody

/-- READ_CAROUSEL (R166). -/
def State.takeReadCarousel (s : State) (rt : ReplyTo) (c : CarouselId) : State :=
  s.respond rt .done (s.readCarouselBody c)

/-- RESTART (R163): DONE is placed; the restart begins when that response has been sent in full. -/
def State.takeRestart (s : State) (rt : ReplyTo) : State := s.respond rt .done []

/-! ## Warm restart (R164) -/

/-- A bay after a warm restart (R21). -/
def Bay.restarted (b : Bay) : Bay := Bay.settleEmpty { b with reserved := 0, incoming := 0, auditHold := false }

/-- The sum of (count + incoming) × unit mass over a carrier's bays (R7). -/
def bookMass (bays : Vector Bay 4) : Nat := (bays.map Bay.mass).sum

/-- A carrier after a warm restart, its planned payload worked afresh (R21). -/
def Carrier.restarted (x : Carrier) : Carrier :=
  { bays := x.bays.map Bay.restarted, payload := bookMass (x.bays.map Bay.restarted) }

/-- A motion record after a warm restart (R118): OFFLINE and WITHDRAWN stay with their HOLD flag, every other state goes
to UNSYNCED with HOLD clear; the latch is sampled from its line. -/
def Motion.restarted (line : GuardLevel) (m : Motion) : Motion :=
  if m.state.outOfService then { m with moveTimer := none, stopTimer := none, guardLatch := line }
  else { m.unsync with hold := false, guardLatch := line }

/-- The half-profile rebuilt from its definition and OVERWEIGHT set or cleared, with no notice yet (R36). -/
def Carousel.rebalanced (x : Carousel) : Carousel :=
  let y := { x with balance := x.balance.rebuild x.cfg.n x.carriers }
  { y with balance := { y.balance with overweight := y.overweightNow } }

/-- A carousel after a warm restart (R164, steps 2 and 4 to 6). -/
def Carousel.restarted (x : Carousel) : Carousel :=
  Carousel.rebalanced
    { x with
      motion := x.motion.restarted x.guardLine, carriers := x.carriers.map Carrier.restarted, calls := [],
      face := none, phase := none, sweep := none }

/-- A discrepancy entry after a warm restart: records stay, reserved entries are freed (R149). -/
def DiscEntry.restarted : DiscEntry → DiscEntry
  | .free => .free
  | .reserved => .free
  | .record r => .record r

/-- The OVERWEIGHT flags before the restart; a restart begun again keeps those of the first (log entry 13). -/
def State.overweightBefore (s : State) : Vector Bool 6 :=
  match s.part with
  | .starting before => before
  | .halted => s.carousels.map fun x => x.balance.overweight
  | .running => s.carousels.map fun x => x.balance.overweight

/-- Steps 1 to 6 of R164; the part is STARTING. -/
def State.warmRestart (s : State) (cause : StartCause) : State :=
  { s with
    part := .starting s.overweightBefore, lastStart := cause, stamp := 0,
    carousels := s.carousels.map Carousel.restarted,
    tasks := Vector.replicate 256 none, nextTicket := 0, starved := false,
    lanes := Vector.replicate 32 Lane.cleared, discs := s.discs.map DiscEntry.restarted,
    ports := s.ports.map fun p => Port.atReset p.held, due := {} }

/-- The notices of step 7: the changed OVERWEIGHT flags, then the carousels that entered UNSYNCED, each group in
carousel order. -/
def State.startNotices (before : Vector Bool 6) (s : State) : State :=
  let changed := carouselIds.filter fun c => (s.carousel c).balance.overweight ≠ look before c
  let entered := carouselIds.filter fun c => (s.motion c).state = .unsynced
  (changed ++ entered).foldl State.postCarousel s

/-- Step 7 of R164: the part leaves STARTING, unless the restart input is still asserted (R163). -/
def State.leaveStarting (s : State) : State :=
  match s.part with
  | .starting before => if s.restartAsserted then s else State.startNotices before { s with part := .running }
  | .halted => s
  | .running => s

/-- A warm restart with its cause (R163, R164). -/
def State.restart (s : State) (cause : StartCause) : State := (s.warmRestart cause).leaveStarting

/-! ## The restart input and the power-on reset input -/

/-- RESTART_INPUT (R163): a restart begins at once; halted, only the level is read (log entry 16). -/
def State.assertRestart (s : State) : State :=
  if s.part = .halted then { s with restartAsserted := true }
  else ({ s with restartAsserted := true } : State).restart .restartInput

/-- RESTART_INPUT_RELEASE (R163). -/
def State.releaseRestart (s : State) : State := ({ s with restartAsserted := false } : State).leaveStarting

/-- POWER_ON (R162): power-on values with the input lines as they stand. -/
def State.powerOn (s : State) : State :=
  State.poweredOn (s.carousels.map Carousel.guardLine) (s.ports.map Port.held) s.straps s.restartAsserted s.pending

/-- POWER_ON_RESET (R162): the part is halted. -/
def State.powerOnReset (s : State) : State := { s with part := .halted }

end Sys2Proof.Machine
end

