-- ==== Sys2Proof/Machine/Dispatcher.lean ====
section
/-! DEFINITION. Machine/Dispatcher.lean: the request dispatcher: the checks of Table 9-1 (R154), the block each request
goes to, and the taking of a frame from a receive buffer (R153). -/

namespace Sys2Proof.Machine

/-- The carousel a station request names (R154, check 5). -/
def requestCarousel? : Request → Option CarouselId
  | .auditCount c _ _ | .faceRelease c _ | .resume c | .readFace c _ => some c
  | .configure .. | .enrol .. | .withdraw .. | .hold .. | .readStatus | .restart | .readCarousel .. | .loadBay ..
  | .readBay .. | .readCarrier .. | .findLots .. | .putRequest .. | .putCancel .. | .orderOpen .. | .orderLines ..
  | .orderCancel .. | .readLane .. | .auditCarrier .. | .auditSweep .. | .auditStop .. | .readDiscrepancy ..
  | .discAck .. | .resolve .. | .pickConfirm .. | .putConfirm .. | .position .. | .arrived .. | .stopped ..
  | .fault .. | .ready | .arrival .. | .laneRelease .. | .laneEmpty .. | .strayClear .. => none

/-- Check 5: a carousel named by a station is assigned to that station. -/
def State.stationMay (s : State) (p : PortId) (r : Request) : Bool :=
  match requestCarousel? r with
  | none => true
  | some c => s.stationSends p c

/-- A request that passes the checks goes to the block that owns it. -/
def State.take (s : State) (rt : ReplyTo) : Request → State
  | .configure item v => s.takeConfigure rt item v
  | .enrol c => s.takeEnrol rt c
  | .withdraw c => s.takeWithdraw rt c
  | .hold c on => s.takeHold rt c on
  | .readStatus => s.takeReadStatus rt
  | .restart => s.takeRestart rt
  | .readCarousel c => s.takeReadCarousel rt c
  | .loadBay r lot count => s.takeLoadBay rt r lot count
  | .readBay r => s.takeReadBay rt r
  | .readCarrier c k => s.takeReadCarrier rt c k
  | .findLots article => s.takeFindLots rt article
  | .putRequest lot count pref => s.takePutRequest rt lot count pref
  | .putCancel t => s.takePutCancel rt t
  | .orderOpen l ref urgent => s.takeOrderOpen rt l ref urgent
  | .orderLines l final lines => s.takeOrderLines rt l final lines
  | .orderCancel l => s.takeOrderCancel rt l
  | .readLane l p => s.takeReadLane rt l p
  | .auditCarrier c k mode => s.takeAuditCarrier rt c k mode
  | .auditSweep c first n rep il mode => s.takeAuditSweep rt c first n rep il mode
  | .auditStop c => s.takeAuditStop rt c
  | .readDiscrepancy id => s.takeReadDiscrepancy rt id
  | .discAck i => s.takeDiscAck rt i
  | .resolve i d => s.takeResolve rt i d
  | .pickConfirm t k => s.takePickConfirm rt t k
  | .putConfirm t j => s.takePutConfirm rt t j
  | .auditCount c b counted => s.takeAuditCount rt c b counted
  | .faceRelease c k => s.takeFaceRelease rt c k
  | .resume c => s.takeResume rt c
  | .readFace c first => s.takeReadFace rt c first
  | .position offset => s.takePosition rt (driveCarousel rt.port) offset
  | .arrived offset => s.takeArrived rt (driveCarousel rt.port) offset
  | .stopped offset => s.takeStopped rt (driveCarousel rt.port) offset
  | .fault code => s.takeFault rt (driveCarousel rt.port) code
  | .ready => s.takeReady rt (driveCarousel rt.port)
  | .arrival l article week => s.takeArrival rt l article week
  | .laneRelease l => s.takeLaneRelease rt l
  | .laneEmpty l => s.takeLaneEmpty rt l
  | .strayClear l n => s.takeStrayClear rt l n

/-- Check 2: the part is STARTING. -/
def State.isStarting (s : State) : Bool :=
  match s.part with
  | .starting _ => true
  | .halted => false
  | .running => false

/-- The checks of Table 9-1, in order (R154). -/
def State.serve (s : State) (p : PortId) (f : Frame) : State :=
  let rt : ReplyTo := ⟨p, f.code, f.tag⟩
  match RequestCode.ofByte f.code with
  | none => s.refuse rt .deniedRole
  | some rc =>
    if ¬ rc.allowedOn p then s.refuse rt .deniedRole
    else if s.isStarting then s.refuse rt .busy
    else
      match parseRequest rc f.payload with
      | none => s.refuse rt .badForm
      | some r => if s.stationMay p r then s.take rt r else s.refuse rt .deniedRole

/-- The dispatcher takes the buffered frame of a port when it has no request in process and its response slot is empty
(R153). -/
def State.dispatch (s : State) (p : PortId) : State :=
  match (s.port p).buffer with
  | none => s
  | some f =>
    if (s.port p).inProcess ∨ (s.port p).slot.isSome then s
    else (s.modPort p fun x => { x with buffer := none, inProcess := true }).serve p f

end Sys2Proof.Machine
end

