-- ==== Sys2Proof/Machine/Links.lean ====
section
/-! DEFINITION. Machine/Links.lean: characters and frames on the way in, frames on the way out (chapter 9), and an event
as one whole operation with what follows it. -/

namespace Sys2Proof.Machine

/-! ## An event, taken whole -/

/-- One operation and what follows it; a part halted by the power-on reset input takes nothing (R162). -/
def State.operation (f : State → State) (s : State) : State :=
  if s.part = .halted then s else (f s.begin).settle

/-! ## Bit rates (9.1) -/

/-- The strap group of a port: L0 to L2, L3 to L5, L6 to L8, L9 to L11 (Table 10-5). -/
def portGroup (p : PortId) : Fin 4 := ⟨p.val / 3, by omega⟩

/-- A port's bit rate, its group's (R150). -/
def State.bitRate (s : State) (p : PortId) : BitRate := look s.bitRates (portGroup p)

/-- Table 10-5. -/
def BitRate.bitsPerSecond : BitRate → Nat
  | .b19200 => 19200
  | .b38400 => 38400
  | .b57600 => 57600
  | .b115200 => 115200

/-- A character time, eleven bit times at the port's rate, in nanoseconds rounded down (R150). -/
def State.characterTime (s : State) (p : PortId) : Nat := 11 * 10 ^ 9 / (s.bitRate p).bitsPerSecond

/-! ## Frames in (9.1, 9.2) -/

/-- A good frame enters the empty buffer and the dispatcher looks at the port, or it is lost with OVERRUN (R153). -/
def State.acceptFrame (s : State) (p : PortId) (f : Frame) : State :=
  if (s.port p).buffer.isSome then s.modPort p fun x => { x with flags := { x.flags with overrun := true } }
  else (s.modPort p fun x => { x with buffer := some f }).dispatch p

/-- The flag a frame that does not end good sets (R152). -/
def flagFor (e : FrameEnd) (x : PortFlags) : PortFlags :=
  match e with
  | .good _ => x
  | .framingError => { x with framing := true }
  | .badLength => { x with check := true }
  | .parityError => { x with parity := true }
  | .checkError => { x with check := true }

/-- A frame ends in a receiver (R151 to R153); the receiver hunts again. A good frame too long for its length byte is a
bad length (log entry 21). -/
def State.endFrame (s : State) (p : PortId) (e : FrameEnd) : State :=
  let s1 := s.modPort p fun x => { x with receiver := .hunting }
  match e with
  | .good f =>
    if f.wellFormed then s1.acceptFrame p f
    else s1.modPort p fun x => { x with flags := flagFor .badLength x.flags }
  | .framingError => s1.modPort p fun x => { x with flags := flagFor .framingError x.flags }
  | .badLength => s1.modPort p fun x => { x with flags := flagFor .badLength x.flags }
  | .parityError => s1.modPort p fun x => { x with flags := flagFor .parityError x.flags }
  | .checkError => s1.modPort p fun x => { x with flags := flagFor .checkError x.flags }

/-- A gap ends a frame in assembly (R151, R152); a hunting receiver measures none. -/
def State.endGap (s : State) (p : PortId) : State :=
  match (s.port p).receiver with
  | .hunting => s
  | .assembling _ _ => s.modPort p fun x => { x with receiver := .hunting, flags := { x.flags with gap := true } }

/-- How a complete frame ends: noted for parity, CRC not matching, or good (R152). `got` is the length byte, code, tag,
payload and the two CRC bytes. -/
def completeFrame (got : List Byte) (noted : Bool) : FrameEnd :=
  if noted then .parityError
  else
    let covered := got.take (got.length - 2)
    if natOf (got.drop (got.length - 2)) ≠ (crc covered).toNat then .checkError
    else
      match covered with
      | _ :: code :: tag :: payload => .good ⟨code, tag, payload⟩
      | _ => .badLength

/-- A character joins a frame in assembly (R151): the ending it brings about, if any. -/
def assemble (got : List Byte) (noted : Bool) : Option FrameEnd :=
  match got with
  | [] => none
  | len :: rest =>
    if len.toNat < 2 ∨ 100 < len.toNat then some .badLength
    else if rest.length = len.toNat + 2 then some (completeFrame got noted)
    else none

/-- A character arrives at a port's receiver (R151). A framing error comes first: a length character outside 2 to 100 that
has one ends the frame as FRAMING, not as CHECK (DESIGN CHOICE, log entry 36). -/
def State.receiveCharacter (s : State) (p : PortId) (value : Byte) (parityError framingError : Bool) : State :=
  match (s.port p).receiver with
  | .hunting =>
    if value = Config.mark ∧ ¬ parityError ∧ ¬ framingError then
      s.modPort p fun x => { x with receiver := .assembling [] false }
    else s
  | .assembling got noted =>
    if framingError then s.endFrame p .framingError
    else
      match assemble (got ++ [value]) (noted || parityError) with
      | some e => s.endFrame p e
      | none => s.modPort p fun x => { x with receiver := .assembling (got ++ [value]) (noted || parityError) }

/-! ## Frames out (9.4) -/

/-- The port's transmitter is sending the DONE response of RESTART (R163). -/
def State.sendingRestart (s : State) : Bool :=
  match (s.port stockPort).sending with
  | some (.response r) => r.code = responseCode RequestCode.restart.byte && r.outcome = .done
  | some (.notice _) => false
  | none => false

/-- The transmitter starts its next frame, and the dispatcher looks at the port (R153, R156). -/
def State.sendOn (s : State) (p : PortId) : State := (s.modPort p Port.startNext).dispatch p

/-- The transmitter completes a frame (R156); the RESTART response sent in full begins the restart (R163). -/
def State.finishFrame (s : State) (p : PortId) : State :=
  if (s.port p).sending.isNone then s
  else if p = stockPort ∧ s.sendingRestart then s.restart .restartRequest
  else (s.modPort p fun x => { x with sending := none }).sendOn p

/-- The level of a hold input (R156). -/
def State.setHoldLevel (s : State) (p : PortId) (asserted : Bool) : State :=
  s.modPort p fun x => { x with held := asserted }

end Sys2Proof.Machine
end

