-- ==== Sys2Proof/Machine/Requests.lean ====
section
/-! DEFINITION. Machine/Requests.lean: what every request command does: its frame, whole and good, arrives on a port
(log entry 5). -/

namespace Sys2Proof.Machine

/-- The frame of a request ends good in the receiver of its port, as one operation (R153, R154). -/
def State.request (s : State) (h : Header) (code : RequestCode) (payload : List Byte) : State :=
  s.operation fun x => x.endFrame h.port (.good ⟨code.byte, h.tag, payload⟩)

end Sys2Proof.Machine
end

