-- ==== Sys2Proof/Machine/Drives.lean ====
section
/-! DEFINITION. Machine/Drives.lean: the meanings of the reports of the drive controllers on L5 to L10. -/

namespace Sys2Proof.Machine

/-- POSITION (R99, R110). -/
def execPosition (h : Header) (offset : Byte) (s : State) : Host.Outcome State Fault Refusal :=
  .next (s.request h .position [offset])

/-- ARRIVED (R103). -/
def execArrived (h : Header) (offset : Byte) (s : State) : Host.Outcome State Fault Refusal :=
  .next (s.request h .arrived [offset])

/-- STOPPED (R107). -/
def execStopped (h : Header) (offset : Byte) (s : State) : Host.Outcome State Fault Refusal :=
  .next (s.request h .stopped [offset])

/-- FAULT (R111). -/
def execFault (h : Header) (cause : Byte) (s : State) : Host.Outcome State Fault Refusal :=
  .next (s.request h .fault [cause])

/-- READY (R112). -/
def execReady (h : Header) (s : State) : Host.Outcome State Fault Refusal :=
  .next (s.request h .ready [])

end Sys2Proof.Machine
end

