-- ==== Sys2Proof/Machine/Events.lean ====
section
/-! DEFINITION. Machine/Events.lean: the meanings of the events on the input lines, in the links and of the timers, and
the tick of the time base. -/

namespace Sys2Proof.Machine

/-! ## Input lines -/

/-- A guard line changes (R105, R106). A stop timer loaded with 0 expires after the event that loaded it (R104, R107).
While the part is halted only the level is read (log entry 16). -/
def State.changeGuard (s : State) (c : CarouselId) (level : GuardLevel) : State :=
  let s1 := s.setGuardLine c level
  let s2 := s1.operation fun x => x.guardEvent c level
  if s2.stopRunOut c then s2.operation fun x => x.expireStop c else s2

/-- GUARD_CHANGE (R105). -/
def execGuardChange (carousel : CarouselId) (level : GuardLevel) (s : State) : Host.Outcome State Fault Refusal :=
  .next (s.changeGuard carousel level)

/-- RESTART_INPUT (R163). -/
def execRestartInput (s : State) : Host.Outcome State Fault Refusal := .next s.assertRestart

/-- RESTART_INPUT_RELEASE (R163). -/
def execRestartInputRelease (s : State) : Host.Outcome State Fault Refusal := .next s.releaseRestart

/-- WARM_RESTART (R163, R164): the RESTART response has been sent in full on L0. Where none is being sent there is no
such event (log entry 12). -/
def execWarmRestart (s : State) : Host.Outcome State Fault Refusal :=
  .next (s.operation fun x => if x.sendingRestart then x.restart .restartRequest else x)

/-- POWER_ON (R162). -/
def execPowerOn (s : State) : Host.Outcome State Fault Refusal := .next s.powerOn

/-- POWER_ON_RESET (R162). -/
def execPowerOnReset (s : State) : Host.Outcome State Fault Refusal := .next s.powerOnReset

/-! ## Links -/

/-- FRAME_RECEIVED (R151 to R153). -/
def execFrameReceived (port : PortId) (ending : FrameEnd) (s : State) : Host.Outcome State Fault Refusal :=
  .next (s.operation fun x => x.endFrame port ending)

/-- FRAME_GAP_EXPIRY (R151, R152). -/
def execFrameGapExpiry (port : PortId) (s : State) : Host.Outcome State Fault Refusal :=
  .next (s.operation fun x => x.endGap port)

/-- FRAME_SENT (R156, R163). -/
def execFrameSent (port : PortId) (s : State) : Host.Outcome State Fault Refusal :=
  .next (s.operation fun x => x.finishFrame port)

/-- HOLD_INPUT (R156); while the part is halted only the level is read (log entry 16). -/
def execHoldInput (port : PortId) (asserted : Bool) (s : State) : Host.Outcome State Fault Refusal :=
  .next ((s.setHoldLevel port asserted).operation fun x => x.sendOn port)

/-- CHARACTER_RECEIVED (R151). -/
def execCharacterReceived (port : PortId) (value : Byte) (parityError framingError : Bool) (s : State) :
    Host.Outcome State Fault Refusal :=
  .next (s.operation fun x => x.receiveCharacter port value parityError framingError)

/-! ## Timers -/

/-- ORDER_OPEN_TIMER_EXPIRY (R56). -/
def execOrderOpenTimerExpiry (lane : LaneId) (s : State) : Host.Outcome State Fault Refusal :=
  .next (s.operation fun x => x.expireOrderOpen lane)

/-- MOVE_TIMER_EXPIRY (R104). -/
def execMoveTimerExpiry (carousel : CarouselId) (s : State) : Host.Outcome State Fault Refusal :=
  .next (s.operation fun x => x.expireMove carousel)

/-- STOP_TIMER_EXPIRY (R107). -/
def execStopTimerExpiry (carousel : CarouselId) (s : State) : Host.Outcome State Fault Refusal :=
  .next (s.operation fun x => x.expireStop carousel)

/-! ## The time base (log entry 4) -/

/-- A running timer counts down by 0.1 s. -/
def countDown (t : Option Nat) : Option Nat := t.map fun n => n - 1

/-- Every running timer counts down. -/
def State.countTimers (s : State) : State :=
  { s with
    lanes := s.lanes.map fun x => { x with timer := countDown x.timer },
    carousels := s.carousels.map fun x =>
      { x with motion := { x.motion with moveTimer := countDown x.motion.moveTimer,
                                         stopTimer := countDown x.motion.stopTimer } } }

/-- The order-open timer of a lane that has run out expires (R56). -/
def State.tickLane (s : State) (l : LaneId) : State :=
  if (s.lane l).timer = some 0 then s.operation fun x => x.expireOrderOpen l else s

/-- The move or stop timer of a carousel that has run out expires (R104, R107). -/
def State.tickCarousel (s : State) (c : CarouselId) : State :=
  if (s.motion c).moveTimer = some 0 then s.operation fun x => x.expireMove c
  else if (s.motion c).stopTimer = some 0 then s.operation fun x => x.expireStop c
  else s

/-- One tick of 0.1 s: timers count down, those that have run out expire one at a time, lanes before carousels, and
selection looks at every IDLE carousel (log entries 4 and 10). A halted part runs no timer (R162). -/
def State.tick (s : State) : State :=
  if s.part = .halted then s
  else
    (carouselIds.foldl State.tickCarousel ((List.finRange 32).foldl State.tickLane s.countTimers)).operation
      State.dueSelect

end Sys2Proof.Machine
end

