-- ==== Sys2Proof/Machine/LaneController.lean ====
section
/-! DEFINITION. Machine/LaneController.lean: the meanings of the requests of the lane controller on L11. -/

namespace Sys2Proof.Machine

/-- ARRIVAL (R119 to R124). -/
def execArrival (h : Header) (lane : Byte) (article : BitVec 24) (week : BitVec 16) (s : State) :
    Host.Outcome State Fault Refusal :=
  .next (s.request h .arrival ([lane] ++ field 3 article ++ field 2 week))

/-- LANE_RELEASE (R126). -/
def execLaneRelease (h : Header) (lane : Byte) (s : State) : Host.Outcome State Fault Refusal :=
  .next (s.request h .laneRelease [lane])

/-- LANE_EMPTY (R127). -/
def execLaneEmpty (h : Header) (lane : Byte) (s : State) : Host.Outcome State Fault Refusal :=
  .next (s.request h .laneEmpty [lane])

/-- STRAY_CLEAR (R125). -/
def execStrayClear (h : Header) (lane n : Byte) (s : State) : Host.Outcome State Fault Refusal :=
  .next (s.request h .strayClear [lane, n])

end Sys2Proof.Machine
end

