-- ==== Sys2Proof/Machine/Stations.lean ====
section
/-! DEFINITION. Machine/Stations.lean: the meanings of the requests of the pick stations on L1 to L4. -/

namespace Sys2Proof.Machine

/-- PICK_CONFIRM (R90 to R92). -/
def execPickConfirm (h : Header) (ticket k : Byte) (s : State) : Host.Outcome State Fault Refusal :=
  .next (s.request h .pickConfirm [ticket, k])

/-- PUT_CONFIRM (R46, R47). -/
def execPutConfirm (h : Header) (ticket j : Byte) (s : State) : Host.Outcome State Fault Refusal :=
  .next (s.request h .putConfirm [ticket, j])

/-- AUDIT_COUNT (R139 to R144). -/
def execAuditCount (h : Header) (carousel bay counted : Byte) (s : State) : Host.Outcome State Fault Refusal :=
  .next (s.request h .auditCount [carousel, bay, counted])

/-- FACE_RELEASE (R93). -/
def execFaceRelease (h : Header) (carousel carrier : Byte) (s : State) : Host.Outcome State Fault Refusal :=
  .next (s.request h .faceRelease [carousel, carrier])

/-- RESUME (R108). -/
def execResume (h : Header) (carousel : Byte) (s : State) : Host.Outcome State Fault Refusal :=
  .next (s.request h .resume [carousel])

/-- READ_FACE (R94, R169). -/
def execReadFace (h : Header) (carousel first : Byte) (s : State) : Host.Outcome State Fault Refusal :=
  .next (s.request h .readFace [carousel, first])

end Sys2Proof.Machine
end

