-- ==== Sys2Proof/Machine/StockComputer.lean ====
section
/-! DEFINITION. Machine/StockComputer.lean: the meanings of the requests of the stock computer on L0. -/

namespace Sys2Proof.Machine

/-- CONFIGURE (R159 to R161). -/
def execConfigure (h : Header) (item index : Byte) (value : BitVec 32) (s : State) :
    Host.Outcome State Fault Refusal :=
  .next (s.request h .configure ([item, index] ++ field 4 value))

/-- ENROL (R98). -/
def execEnrol (h : Header) (carousel : Byte) (s : State) : Host.Outcome State Fault Refusal :=
  .next (s.request h .enrol [carousel])

/-- WITHDRAW (R115). -/
def execWithdraw (h : Header) (carousel : Byte) (s : State) : Host.Outcome State Fault Refusal :=
  .next (s.request h .withdraw [carousel])

/-- HOLD (R114). -/
def execHold (h : Header) (carousel on : Byte) (s : State) : Host.Outcome State Fault Refusal :=
  .next (s.request h .hold [carousel, on])

/-- READ_STATUS (R165). -/
def execReadStatus (h : Header) (s : State) : Host.Outcome State Fault Refusal :=
  .next (s.request h .readStatus [])

/-- RESTART (R163). -/
def execRestart (h : Header) (s : State) : Host.Outcome State Fault Refusal :=
  .next (s.request h .restart [])

/-- READ_CAROUSEL (R166). -/
def execReadCarousel (h : Header) (carousel : Byte) (s : State) : Host.Outcome State Fault Refusal :=
  .next (s.request h .readCarousel [carousel])

/-- LOAD_BAY (R15, R16). -/
def execLoadBay (h : Header) (carousel carrier bay : Byte) (article : BitVec 24) (week unitMass width : BitVec 16)
    (count : Byte) (s : State) : Host.Outcome State Fault Refusal :=
  .next (s.request h .loadBay ([carousel, carrier, bay] ++ field 3 article ++ field 2 week ++ field 2 unitMass ++
    field 2 width ++ [count]))

/-- READ_BAY (R17). -/
def execReadBay (h : Header) (carousel carrier bay : Byte) (s : State) : Host.Outcome State Fault Refusal :=
  .next (s.request h .readBay [carousel, carrier, bay])

/-- READ_CARRIER (R18). -/
def execReadCarrier (h : Header) (carousel carrier : Byte) (s : State) : Host.Outcome State Fault Refusal :=
  .next (s.request h .readCarrier [carousel, carrier])

/-- FIND_LOTS (R19). -/
def execFindLots (h : Header) (article : BitVec 24) (s : State) : Host.Outcome State Fault Refusal :=
  .next (s.request h .findLots (field 3 article))

/-- PUT_REQUEST (R38 to R44). -/
def execPutRequest (h : Header) (article : BitVec 24) (week : BitVec 16) (count : Byte)
    (unitMass width : BitVec 16) (preferred : Byte) (s : State) : Host.Outcome State Fault Refusal :=
  .next (s.request h .putRequest (field 3 article ++ field 2 week ++ [count] ++ field 2 unitMass ++ field 2 width ++
    [preferred]))

/-- PUT_CANCEL (R50). -/
def execPutCancel (h : Header) (ticket : Byte) (s : State) : Host.Outcome State Fault Refusal :=
  .next (s.request h .putCancel [ticket])

/-- ORDER_OPEN (R53). -/
def execOrderOpen (h : Header) (lane : Byte) (ref : BitVec 32) (urgent : Byte) (s : State) :
    Host.Outcome State Fault Refusal :=
  .next (s.request h .orderOpen ([lane] ++ field 4 ref ++ [urgent]))

/-- ORDER_LINES (R54, R55). -/
def execOrderLines (h : Header) (lane final : Byte) (lines : List LineField) (s : State) :
    Host.Outcome State Fault Refusal :=
  .next (s.request h .orderLines (orderLinesPayload lane final lines))

/-- ORDER_CANCEL (R72). -/
def execOrderCancel (h : Header) (lane : Byte) (s : State) : Host.Outcome State Fault Refusal :=
  .next (s.request h .orderCancel [lane])

/-- READ_LANE (R74, R169). -/
def execReadLane (h : Header) (lane part : Byte) (s : State) : Host.Outcome State Fault Refusal :=
  .next (s.request h .readLane [lane, part])

/-- AUDIT_CARRIER (R131). -/
def execAuditCarrier (h : Header) (carousel carrier mode : Byte) (s : State) : Host.Outcome State Fault Refusal :=
  .next (s.request h .auditCarrier [carousel, carrier, mode])

/-- AUDIT_SWEEP (R132). -/
def execAuditSweep (h : Header) (carousel first n repetition interleave mode : Byte) (s : State) :
    Host.Outcome State Fault Refusal :=
  .next (s.request h .auditSweep [carousel, first, n, repetition, interleave, mode])

/-- AUDIT_STOP (R134). -/
def execAuditStop (h : Header) (carousel : Byte) (s : State) : Host.Outcome State Fault Refusal :=
  .next (s.request h .auditStop [carousel])

/-- READ_DISCREPANCY (R148). -/
def execReadDiscrepancy (h : Header) (id : Byte) (s : State) : Host.Outcome State Fault Refusal :=
  .next (s.request h .readDiscrepancy [id])

/-- DISC_ACK (R146). -/
def execDiscAck (h : Header) (id : Byte) (s : State) : Host.Outcome State Fault Refusal :=
  .next (s.request h .discAck [id])

/-- RESOLVE (R147). -/
def execResolve (h : Header) (id decision : Byte) (article : BitVec 24) (week unitMass width : BitVec 16)
    (s : State) : Host.Outcome State Fault Refusal :=
  .next (s.request h .resolve ([id, decision] ++ field 3 article ++ field 2 week ++ field 2 unitMass ++ field 2 width))

end Sys2Proof.Machine
end

