-- ==== Sys2Proof/Machine/Dispatch.lean ====
section
/-! DEFINITION. Machine/Dispatch.lean: one arm per command. -/

namespace Sys2Proof.Machine

def exec (i : Instr) (s : State) : Host.Outcome State Fault Refusal :=
  match i with
  | .configure h item index value => Sys2Proof.Machine.execConfigure h item index value s
  | .enrol h carousel => Sys2Proof.Machine.execEnrol h carousel s
  | .withdraw h carousel => Sys2Proof.Machine.execWithdraw h carousel s
  | .hold h carousel on => Sys2Proof.Machine.execHold h carousel on s
  | .readStatus h => Sys2Proof.Machine.execReadStatus h s
  | .restart h => Sys2Proof.Machine.execRestart h s
  | .readCarousel h carousel => Sys2Proof.Machine.execReadCarousel h carousel s
  | .loadBay h carousel carrier bay article week unitMass width count => Sys2Proof.Machine.execLoadBay h carousel carrier bay article week unitMass width count s
  | .readBay h carousel carrier bay => Sys2Proof.Machine.execReadBay h carousel carrier bay s
  | .readCarrier h carousel carrier => Sys2Proof.Machine.execReadCarrier h carousel carrier s
  | .findLots h article => Sys2Proof.Machine.execFindLots h article s
  | .putRequest h article week count unitMass width preferred => Sys2Proof.Machine.execPutRequest h article week count unitMass width preferred s
  | .putCancel h ticket => Sys2Proof.Machine.execPutCancel h ticket s
  | .orderOpen h lane ref urgent => Sys2Proof.Machine.execOrderOpen h lane ref urgent s
  | .orderLines h lane final lines => Sys2Proof.Machine.execOrderLines h lane final lines s
  | .orderCancel h lane => Sys2Proof.Machine.execOrderCancel h lane s
  | .readLane h lane part => Sys2Proof.Machine.execReadLane h lane part s
  | .auditCarrier h carousel carrier mode => Sys2Proof.Machine.execAuditCarrier h carousel carrier mode s
  | .auditSweep h carousel first n repetition interleave mode => Sys2Proof.Machine.execAuditSweep h carousel first n repetition interleave mode s
  | .auditStop h carousel => Sys2Proof.Machine.execAuditStop h carousel s
  | .readDiscrepancy h id => Sys2Proof.Machine.execReadDiscrepancy h id s
  | .discAck h id => Sys2Proof.Machine.execDiscAck h id s
  | .resolve h id decision article week unitMass width => Sys2Proof.Machine.execResolve h id decision article week unitMass width s
  | .pickConfirm h ticket k => Sys2Proof.Machine.execPickConfirm h ticket k s
  | .putConfirm h ticket j => Sys2Proof.Machine.execPutConfirm h ticket j s
  | .auditCount h carousel bay counted => Sys2Proof.Machine.execAuditCount h carousel bay counted s
  | .faceRelease h carousel carrier => Sys2Proof.Machine.execFaceRelease h carousel carrier s
  | .resume h carousel => Sys2Proof.Machine.execResume h carousel s
  | .readFace h carousel first => Sys2Proof.Machine.execReadFace h carousel first s
  | .position h offset => Sys2Proof.Machine.execPosition h offset s
  | .arrived h offset => Sys2Proof.Machine.execArrived h offset s
  | .stopped h offset => Sys2Proof.Machine.execStopped h offset s
  | .fault h cause => Sys2Proof.Machine.execFault h cause s
  | .ready h => Sys2Proof.Machine.execReady h s
  | .arrival h lane article week => Sys2Proof.Machine.execArrival h lane article week s
  | .laneRelease h lane => Sys2Proof.Machine.execLaneRelease h lane s
  | .laneEmpty h lane => Sys2Proof.Machine.execLaneEmpty h lane s
  | .strayClear h lane n => Sys2Proof.Machine.execStrayClear h lane n s
  | .guardChange carousel level => Sys2Proof.Machine.execGuardChange carousel level s
  | .restartInput => Sys2Proof.Machine.execRestartInput s
  | .restartInputRelease => Sys2Proof.Machine.execRestartInputRelease s
  | .warmRestart => Sys2Proof.Machine.execWarmRestart s
  | .powerOn => Sys2Proof.Machine.execPowerOn s
  | .frameReceived port ending => Sys2Proof.Machine.execFrameReceived port ending s
  | .frameGapExpiry port => Sys2Proof.Machine.execFrameGapExpiry port s
  | .frameSent port => Sys2Proof.Machine.execFrameSent port s
  | .holdInput port asserted => Sys2Proof.Machine.execHoldInput port asserted s
  | .orderOpenTimerExpiry lane => Sys2Proof.Machine.execOrderOpenTimerExpiry lane s
  | .moveTimerExpiry carousel => Sys2Proof.Machine.execMoveTimerExpiry carousel s
  | .stopTimerExpiry carousel => Sys2Proof.Machine.execStopTimerExpiry carousel s
  | .characterReceived port value parityError framingError => Sys2Proof.Machine.execCharacterReceived port value parityError framingError s
  | .powerOnReset => Sys2Proof.Machine.execPowerOnReset s

end Sys2Proof.Machine
end

