-- ==== Sys2Proof/Safety.lean ====
section
/-! DEFINITION. Safety.lean: what counts as a sound state, and the words the statements are written in: a port ready for
a request, everything of a state but its ports, and the laws the manual states of tables. -/

namespace Sys2Proof.Machine

/-! ## Words of the statements -/

/-- A number as a one-byte field. -/
def byteOf (n : Nat) : Byte := BitVec.ofNat 8 n

/-- A port on which the next good frame is taken by the dispatcher at once (R153): the part is running, the receive
buffer and the response slot are empty and no request is in process. -/
def State.readyFor (s : State) (p : PortId) : Prop :=
  s.part = .running ∧ (s.port p).buffer = none ∧ (s.port p).slot = none ∧ (s.port p).inProcess = false

/-- A port whose good frame the dispatcher has taken (R153). -/
def Port.taken (x : Port) : Port := { x with receiver := .hunting, buffer := none, inProcess := true }

/-- The state in which a block takes the request of a port: nothing due, the frame taken. -/
def State.accepted (s : State) (p : PortId) : State := s.begin.modPort p Port.taken

/-- Everything the part holds but its ports and the scratch field `due`. -/
def State.inner (s : State) : State := { s with ports := Vector.replicate 12 (Port.atReset false), due := {} }

/-- Every port but the named ones is as it was. -/
def State.portsBut (s t : State) (named : List PortId) : Prop := ∀ q, q ∉ named → t.port q = s.port q

/-- The response a port holds or is sending. -/
def Port.answers (x : Port) (r : Response) : Prop := x.slot = some r ∨ x.sending = some (.response r)

/-- A line within the domains of ORDER_LINES (Table 4-3, checks 1 and 2). -/
def LineSpecLegal (x : LineSpec) : Prop :=
  1 ≤ x.article ∧ x.article ≤ 999999 ∧ 1 ≤ x.quantity ∧ x.quantity ≤ 16
    ∧ (x.setSize = 1 ∨ x.setSize = 2 ∨ x.setSize = 4) ∧ x.quantity % x.setSize = 0
    ∧ ∀ w, x.minWeek = some w → 1 ≤ w ∧ w ≤ 4095

/-- A line as ORDER_LINES sends it; no minimum week is sent as 0 (11.2). -/
def lineSpecField (x : LineSpec) : LineField :=
  { article := BitVec.ofNat 24 x.article, quantity := byteOf x.quantity, setSize := byteOf x.setSize,
    minWeek := BitVec.ofNat 16 (x.minWeek.getD 0) }

/-- Item code and index as CONFIGURE sends them (Tables 10-1, 10-2 and 11-6); a global item's index is sent as 0. -/
def itemCode : ConfigItem → Nat × Nat
  | .carrierCount c => (0x01, c.val)
  | .bayHeight c => (0x02, c.val)
  | .payloadLimit c => (0x03, c.val)
  | .putLimit c => (0x04, c.val)
  | .hardLimit c => (0x05, c.val)
  | .timingProfile c => (0x06, c.val)
  | .station c => (0x07, c.val)
  | .baseTime p => (0x10, p.val)
  | .stepTime p => (0x11, p.val)
  | .permits => (0x12, 0)
  | .laneCapacity => (0x13, 0)
  | .orderOpenTime => (0x14, 0)
  | .shortPickMode => (0x15, 0)

/-- The two LANE_STATE notices of R121, R123 and R124: L11, then L0. -/
def laneStateBoth (l : LaneId) (state : LaneState) (ref : BitVec 32) (strays : Nat) : List (PortId × Notice) :=
  [(lanePort, .laneState l state ref strays), (stockPort, .laneState l state ref strays)]

/-- The order reference a notice about a lane carries. -/
def Lane.ref (x : Lane) : BitVec 32 := (x.order.map Order.ref).getD 0

/-- Characters taken one after another by a port, without an error. -/
def characters (p : PortId) (bytes : List Byte) : List Instr :=
  bytes.map fun b => .characterReceived p b false false

/-- Commands taken one after another, for as long as each answers a next state. -/
def execAll : List Instr → State → Host.Outcome State Fault Refusal
  | [], s => .next s
  | i :: rest, s =>
    match exec i s with
    | .next t => execAll rest t
    | .fault r => .fault r
    | .refused r => .refused r

/-! ## What a command leaves -/

/-- A port after notices were posted, in order (R156, R157). -/
def postsTo (posts : List (PortId × Notice)) (q : PortId) (x : Port) : Port :=
  (posts.filter fun n => n.1 = q).foldl (fun acc n => acc.post n.2) x

/-- A port after a request: its frame is taken, the notices of the command are posted in order, and on the request's
own port the response is placed (R153, R155, R157). Any other port only takes its notices. -/
def State.portAfter (s : State) (h : Header) (code : RequestCode) (posts : List (PortId × Notice))
    (outcome : ReplyCode) (body : List Byte) (q : PortId) : Port :=
  if q = h.port then
    (postsTo posts q (s.port q).taken).place (responseCode code.byte) h.tag outcome body
  else postsTo posts q (s.port q)

/-- A request completes: everything of the state it leaves but the ports is as in `u`, and every port is as the posts
and the response make it. -/
def Completes (i : Instr) (s : State) (h : Header) (code : RequestCode) (outcome : ReplyCode) (body : List Byte)
    (posts : List (PortId × Notice)) (u : State) : Prop :=
  ∃ t : State, exec i s = .next t ∧ t.inner = u.inner ∧ ∀ q, t.port q = s.portAfter h code posts outcome body q

/-- A request completes as `Completes` says, and then follows what its operation made due (R63, R80, R87, R89, R101). -/
def CompletesThen (i : Instr) (s : State) (h : Header) (code : RequestCode) (outcome : ReplyCode) (body : List Byte)
    (posts : List (PortId × Notice)) (due : Due) (u : State) : Prop :=
  ∃ x : State, exec i s = .next x.settle ∧ x.due = due ∧ x.inner = u.inner
    ∧ ∀ q, x.port q = s.portAfter h code posts outcome body q

/-- An event has its effect: everything but the ports is as in `u`, the ports have only taken the notices posted. -/
def Happens (i : Instr) (s : State) (posts : List (PortId × Notice)) (u : State) : Prop :=
  ∃ t : State, exec i s = .next t ∧ t.inner = u.inner ∧ ∀ q, t.port q = postsTo posts q (s.port q)

/-- An event has its effect as `Happens` says, and then follows what it made due. -/
def HappensThen (i : Instr) (s : State) (posts : List (PortId × Notice)) (due : Due) (u : State) : Prop :=
  ∃ x : State, exec i s = .next x.settle ∧ x.due = due ∧ x.inner = u.inner ∧ ∀ q, x.port q = postsTo posts q (s.port q)

/-- A carousel after one change of one of its bays (R8): the new counts and the carrier's payload, the half-profile and
OVERWEIGHT where the payload moved, and the return to EMPTY of a bay whose counts are all 0. -/
def Carousel.booked (k : CarrierId) (b : BayId) (f : Bay → Bay) (x : Carousel) : Carousel :=
  let old := look (look x.carriers k).bays b
  let delta : Int := ((f old).mass : Int) - (old.mass : Int)
  let balance := x.balance.shift x.cfg.n k.val delta
  { x with
    carriers := put x.carriers k
      { bays := put (look x.carriers k).bays b (f old).settleEmpty,
        payload := (((look x.carriers k).payload : Int) + delta).toNat },
    balance := if delta = 0 then x.balance else { balance with overweight := x.cfg.hardLimit < balance.peak } }

/-- OVERWEIGHT changes with one change of a bay. -/
def Carousel.flips (k : CarrierId) (b : BayId) (f : Bay → Bay) (x : Carousel) : Bool :=
  (x.booked k b f).balance.overweight != x.balance.overweight

/-- The notices of one change of a bay: a CAROUSEL notice where OVERWEIGHT changes (R30). -/
def State.bookPosts (s : State) (r : BayRef) (f : Bay → Bay) : List (PortId × Notice) :=
  let x := s.carousel r.carousel
  let y := x.booked r.carrier r.bay f
  if x.flips r.carrier r.bay f then
    [(stockPort, .carousel r.carousel y.motion.state y.motion.fault y.motion.hold y.balance.overweight y.balance.peak)]
  else []

/-- The state after one change of one bay, but for the notice. -/
def State.booked (s : State) (r : BayRef) (f : Bay → Bay) : State :=
  s.modCarousel r.carousel (Carousel.booked r.carrier r.bay f)

/-! ## Laws that hold in every state -/

/-- No notice queue holds more than 8 notices (R157). -/
def State.queuesBounded (s : State) : Prop := ∀ p, (s.port p).queue.length ≤ Config.noticeQueuePlaces

/-- The carousels in MOVING, STOPPING or SUSPENDED number at most P (R100). -/
def State.permitsBounded (s : State) : Prop := s.permitsHeld ≤ s.globals.permits

/-- At most one call per carrier, and none for the carrier presented (R76). -/
def Carousel.oneCallPerCarrier (x : Carousel) : Prop :=
  (x.calls.map Call.carrier).Nodup ∧ ∀ p, x.face = some p → p.carrier ∉ x.calls.map Call.carrier

def State.oneCallPerCarrier (s : State) : Prop := ∀ c, (s.carousel c).oneCallPerCarrier

/-- No call was passed over more than 8 times (R81). -/
def State.passesBounded (s : State) : Prop := ∀ c, ∀ q ∈ (s.carousel c).calls, q.passes ≤ Config.ageLimit

/-- A carousel's motion record holds what Table 6-1 says is present in its state, and a presentation and a phase run
only in PRESENTING. -/
def Carousel.motionRight (x : Carousel) : Prop :=
  let m := x.motion
  (m.state ∈ [.offline, .unsynced, .withdrawn] → m.held = none)
    ∧ (m.state ∈ [.idle, .waitPermit, .moving, .stopping, .suspended, .presenting] → m.held ≠ none)
    ∧ (m.chosen ≠ none ↔ m.state ∈ [.waitPermit, .moving, .stopping, .suspended])
    ∧ (m.lastMove ≠ none ↔ m.state ∈ [.moving, .stopping, .suspended])
    ∧ (m.moveTimer ≠ none ↔ m.state = .moving)
    ∧ (m.stopTimer ≠ none ↔ m.state = .stopping)
    ∧ (m.fault ≠ none ↔ m.state = .faulted ∨ (x.face.map Presentation.faultFlag) = some true)
    ∧ (x.face ≠ none ↔ m.state = .presenting)
    ∧ (x.phase ≠ none → x.face ≠ none)

def State.motionRight (s : State) : Prop := ∀ c, (s.carousel c).motionRight

/-- Every PRESENTED task, and every tombstone, lies on the carrier at the face of its carousel, and that carousel is
PRESENTING (R86, R88). -/
def State.presentedAtFace (s : State) : Prop :=
  (∀ c, (s.carousel c).face ≠ none ↔ (s.motion c).state = .presenting)
    ∧ ∀ t x, s.task t = some x → x.state ≠ .queued →
        ∃ p, (s.carousel x.bay.carousel).face = some p ∧ p.carrier = x.bay.carrier

/-- OVERWEIGHT stands exactly while the peak is above the hard limit (R30). -/
def State.overweightRight (s : State) : Prop :=
  ∀ c, (s.carousel c).balance.overweight = decide ((s.carousel c).cfg.hardLimit < (s.carousel c).balance.peak)

/-- A carousel's items lie in the ranges of Table 10-1, and its put limit is at most its hard limit. -/
def CarouselConfig.legal (g : CarouselConfig) : Prop :=
  g.n % 2 = 0 ∧ 8 ≤ g.n ∧ g.n ≤ 40 ∧ 200 ≤ g.bayHeight ∧ g.bayHeight ≤ 1500 ∧ 100 ≤ g.payloadLimit
    ∧ g.payloadLimit ≤ 8000 ∧ g.putLimit ≤ g.hardLimit ∧ g.hardLimit ≤ 160000

/-- The global items lie in the ranges of Table 10-2. -/
def Globals.legal (g : Globals) : Prop :=
  (∀ p, (look g.profiles p).baseTime ≤ 600 ∧ 1 ≤ (look g.profiles p).stepTime ∧ (look g.profiles p).stepTime ≤ 255)
    ∧ 1 ≤ g.permits ∧ g.permits ≤ 6 ∧ 4 ≤ g.laneCapacity ∧ g.laneCapacity ≤ 64 ∧ 100 ≤ g.orderOpenTime
    ∧ g.orderOpenTime ≤ 6000

/-- Every configuration item lies within its range (Tables 10-1 and 10-2). -/
def State.configLegal (s : State) : Prop := s.globals.legal ∧ ∀ c, (s.carousel c).cfg.legal

/-! ## The book and the balance (R7, R24, R26) -/

/-- The planned payload of every carrier is the sum of (count + incoming) × unit mass over its bays (R7). -/
def Carousel.payloadsRight (x : Carousel) : Prop := ∀ k, (look x.carriers k).payload = bookMass (look x.carriers k).bays

/-- The sum of the planned payloads of the carriers in use that satisfy a test. -/
def payloadSum (carriers : Vector Carrier 40) (keep : Fin 40 → Bool) : Int :=
  ((List.finRange 40).map fun c => if keep c then ((look carriers c).payload : Int) else 0).sum

/-- Twice the planned payloads of the front run at k, minus the total (R24). -/
def profileAt (n : Nat) (carriers : Vector Carrier 40) (k : Nat) : Int :=
  2 * payloadSum carriers (fun c => c.val < n && onFront n k c.val) - payloadSum carriers fun c => c.val < n

/-- Every profile entry is what R24 defines. -/
def Carousel.profileRight (x : Carousel) : Prop :=
  ∀ k : Fin 20, k.val < x.cfg.n / 2 → look x.balance.entries k = profileAt x.cfg.n x.carriers k.val

/-- The peak is the largest magnitude of the half-profile and the peak offset the first offset that has it (R26). -/
def Balance.peakRight (n : Nat) (b : Balance) : Prop :=
  (∀ k : Fin 20, k.val < n / 2 → (look b.entries k).natAbs ≤ b.peak)
    ∧ ∃ k : Fin 20, k.val < n / 2 ∧ k.val = b.peakOffset ∧ (look b.entries k).natAbs = b.peak
        ∧ ∀ j : Fin 20, j.val < k.val → (look b.entries j).natAbs < b.peak

end Sys2Proof.Machine
end

