-- ==== Sys2Proof/Certificates/Slice0/Obligations.lean ====
section
/-! DEFINITION. Certificates/Slice0/Obligations.lean: the statements about the JC-360 model, from the numbered rules of
spec/. -/

open Sys2Proof Sys2Proof.Machine

/-! ## Carousel motion (chapter 6) -/

/-- R98. ENROL is taken in OFFLINE and WITHDRAWN while the carousel has a station: UNSYNCED, no held offset, no
timer, no cause, HOLD as it stands, a CAROUSEL notice, DONE. Otherwise it is refused with WRONG_STATE. A
carousel number above 5 is BAD_FORM. R112. READY in FAULTED clears the cause and the held offset and goes to
UNSYNCED with a CAROUSEL notice; calls, tasks and scopes stay. Every other state refuses it. -/
def Obligations.EnrolAndReadyTakeACarouselToUnsynced : Prop :=
  (
    ∀ (h : Header) (c : CarouselId) (s : State), s.readyFor h.port → h.port = stockPort →
      let x := s.carousel c
      if (x.motion.state = .offline ∨ x.motion.state = .withdrawn) ∧ x.cfg.station ≠ none then
        Completes (.enrol h (byteOf c.val)) s h .enrol .done []
          [(stockPort, .carousel c .unsynced none x.motion.hold x.balance.overweight x.balance.peak)]
          (s.modMotion c fun m =>
            { m with state := .unsynced, held := none, chosen := none, lastMove := none, moveTimer := none,
                     stopTimer := none, fault := none })
      else Completes (.enrol h (byteOf c.val)) s h .enrol .wrongState [] [] s)
  ∧ (
    ∀ (h : Header) (c : CarouselId) (s : State), s.readyFor h.port → h.port = drivePort c →
      let x := s.carousel c
      if x.motion.state = .faulted then
        Completes (.ready h) s h .ready .done []
          [(stockPort, .carousel c .unsynced none x.motion.hold x.balance.overweight x.balance.peak)]
          (s.modMotion c fun m =>
            { m with state := .unsynced, held := none, chosen := none, lastMove := none, moveTimer := none,
                     stopTimer := none, fault := none })
      else Completes (.ready h) s h .ready .wrongState [] [] s)
  ∧ (
    ∀ (h : Header) (v : Byte) (s : State), s.readyFor h.port → h.port = stockPort → 5 < v.toNat →
      Completes (.enrol h v) s h .enrol .badForm [] [] s)

/-- R114. HOLD sets or clears the flag in every state; on in WAIT_PERMIT drops the choice; off in a held carousel makes
selection due. -/
def Obligations.HoldSetsTheFlagInEveryState : Prop :=
  ∀ (h : Header) (c : CarouselId) (s : State), s.readyFor h.port → h.port = stockPort →
    Completes (.hold h (byteOf c.val) 1) s h .hold .done [] []
        (s.modMotion c fun m =>
          if m.state = .waitPermit then { m with hold := true, state := .idle, chosen := none }
          else { m with hold := true })
      ∧ CompletesThen (.hold h (byteOf c.val) 0) s h .hold .done [] [] { select := (s.motion c).hold }
        (s.modMotion c fun m => { m with hold := false })

/-- R99. POSITION: an offset from N on is out of range; OFFLINE, FAULTED and WITHDRAWN refuse it; UNSYNCED takes it as
the held offset and goes to IDLE with a CAROUSEL notice, a pass and a selection due; a turning carousel does not compare
it; at rest an equal offset changes nothing and another one is a misposition. (The misposition of a PRESENTING carousel
has its own statement. Which refusal wins where two apply is the model's choice, log entry 30, and is not stated.) -/
def Obligations.PositionIsTakenByMotionState : Prop :=
  ∀ (h : Header) (c : CarouselId) (offset : Nat) (s : State), s.readyFor h.port → h.port = drivePort c → offset ≤ 39 →
    let x := s.carousel c
    let m := x.motion
    let i := Instr.position h (byteOf offset)
    (x.cfg.n ≤ offset → m.state ∉ [.offline, .faulted, .withdrawn] → Completes i s h .position .badRange [] [] s)
      ∧ (offset < x.cfg.n → m.state ∈ [.offline, .faulted, .withdrawn] → Completes i s h .position .wrongState [] [] s)
      ∧ (offset < x.cfg.n → m.state = .unsynced →
          CompletesThen i s h .position .done []
            [(stockPort, .carousel c .idle m.fault m.hold x.balance.overweight x.balance.peak)]
            { pass := true, select := true }
            (s.modMotion c fun y =>
              { y with state := .idle, held := some offset, chosen := none, lastMove := none, moveTimer := none,
                       stopTimer := none }))
      ∧ (offset < x.cfg.n → m.state ∈ [.moving, .stopping] → Completes i s h .position .done [] [] s)
      ∧ (offset < x.cfg.n → m.state ∈ [.idle, .waitPermit, .suspended, .presenting] → m.held = some offset →
          Completes i s h .position .done [] [] s)
      ∧ (offset < x.cfg.n → m.state ∈ [.idle, .waitPermit, .suspended] → x.face = none → m.held ≠ some offset →
          CompletesThen i s h .position .done []
            [(stockPort, .carousel c .faulted (some .misposition) m.hold x.balance.overweight x.balance.peak)]
            { arbiter := m.state = .suspended }
            (s.modMotion c fun y =>
              { y with state := .faulted, chosen := none, lastMove := none, moveTimer := none, stopTimer := none,
                       fault := some .misposition }))

/-- R107. STOPPED in STOPPING: the stop timer is cancelled, the offset is held, SUSPENDED with permit, choice and
last move kept; every other state refuses it. R103. ARRIVED in MOVING or STOPPING: at the target the offset is
held, both timers are cancelled and the presentation of the chosen carrier starts; at another offset it is a
misposition. Every other state refuses it. -/
def Obligations.StoppedAndArrivedEndTheTurning : Prop :=
  (
    ∀ (h : Header) (c : CarouselId) (offset : Nat) (s : State), s.readyFor h.port → h.port = drivePort c →
      offset < (s.carousel c).cfg.n → offset ≤ 39 →
      let i := Instr.stopped h (byteOf offset)
      if (s.motion c).state = .stopping then
        Completes i s h .stopped .done [] []
          (s.modMotion c fun m => { m with state := .suspended, held := some offset, stopTimer := none })
      else Completes i s h .stopped .wrongState [] [] s)
  ∧ (
    ∀ (h : Header) (c : CarouselId) (offset : Nat) (s : State), s.readyFor h.port → h.port = drivePort c →
      offset < (s.carousel c).cfg.n → offset ≤ 39 →
      let x := s.carousel c
      let m := x.motion
      let i := Instr.arrived h (byteOf offset)
      (m.state ∉ [.moving, .stopping] → Completes i s h .arrived .wrongState [] [] s)
        ∧ ∀ k, m.state ∈ [.moving, .stopping] → m.chosen = some k →
          (k.target = offset →
            exec i s = .next
              ((((s.accepted h.port).modMotion c fun y =>
                  { y with held := some offset, moveTimer := none, stopTimer := none }).startPresentation c
                  k.carrier).respond ⟨h.port, RequestCode.byte .arrived, h.tag⟩ .done []).settle)
            ∧ (k.target ≠ offset →
              CompletesThen i s h .arrived .done []
                [(stockPort, .carousel c .faulted (some .misposition) m.hold x.balance.overweight x.balance.peak)]
                { arbiter := true }
                (s.modMotion c fun y =>
                  { y with state := .faulted, chosen := none, lastMove := none, moveTimer := none, stopTimer := none,
                           fault := some .misposition })))

/-- R111, R109. FAULT: refused in OFFLINE and WITHDRAWN; in PRESENTING it sets the fault flag and the cause; in FAULTED
it replaces the cause; in every other state the carousel goes to FAULTED. -/
def Obligations.FaultIsTakenByMotionState : Prop :=
  ∀ (h : Header) (c : CarouselId) (cause : Nat) (s : State), s.readyFor h.port → h.port = drivePort c →
    1 ≤ cause → cause ≤ 15 →
    let x := s.carousel c
    let m := x.motion
    let i := Instr.fault h (byteOf cause)
    if m.state = .offline ∨ m.state = .withdrawn then Completes i s h .fault .wrongState [] [] s
    else if m.state = .presenting then
      Completes i s h .fault .done [] []
        (s.modCarousel c fun y =>
          { y with motion := { y.motion with fault := some (.drive cause) },
                   face := y.face.map fun p => { p with faultFlag := true } })
    else if m.state = .faulted then
      Completes i s h .fault .done [] [] (s.modMotion c fun y => { y with fault := some (.drive cause) })
    else
      CompletesThen i s h .fault .done []
        [(stockPort, .carousel c .faulted (some (.drive cause)) m.hold x.balance.overweight x.balance.peak)]
        { arbiter := m.state = .moving ∨ m.state = .stopping ∨ m.state = .suspended }
        (s.modMotion c fun y =>
          { y with state := .faulted, chosen := none, lastMove := none, moveTimer := none, stopTimer := none,
                   fault := some (.drive cause) })

/-- R108. RESUME with the carousel SUSPENDED and its guard CLOSED, away from the target: a new MOVE by the distance from
the held offset, the move timer loaded, MOVING. At the target itself the permit goes back and the presentation starts.
Otherwise it is refused. A carousel number above 5 is BAD_FORM, a carousel of another station DENIED_ROLE. -/
def Obligations.ResumeWorksTheMoveAgain : Prop :=
  (
    ∀ (h : Header) (c : CarouselId) (st : StationId) (s : State), s.readyFor h.port → h.port = stationPort st →
      (s.carousel c).cfg.station = some st →
      let x := s.carousel c
      let m := x.motion
      let i := Instr.resume h (byteOf c.val)
      (m.state ≠ .suspended ∨ m.guardLatch = .opened → Completes i s h .resume .wrongState [] [] s)
        ∧ ∀ k offset, m.state = .suspended → m.guardLatch = .closed → m.chosen = some k → m.held = some offset →
          let way := rotation x.cfg.n offset k.target
          (0 < way.2 →
            Completes i s h .resume .done [] [(drivePort c, .move k.target way.1 way.2)]
              (s.modMotion c fun y =>
                { y with state := .moving, lastMove := some ⟨way.1, way.2⟩,
                         moveTimer := some ((look s.globals.profiles x.cfg.profile).baseTime
                           + way.2 * (look s.globals.profiles x.cfg.profile).stepTime) }))
            ∧ (way.2 = 0 →
              exec i s = .next
                (((s.accepted h.port).startPresentation c k.carrier).respond ⟨h.port, RequestCode.byte .resume, h.tag⟩
                  .done []).settle))
  ∧ (
    ∀ (h : Header) (st : StationId) (s : State), s.readyFor h.port → h.port = stationPort st →
      (∀ v : Byte, 5 < v.toNat → Completes (.resume h v) s h .resume .badForm [] [] s)
        ∧ ∀ c : CarouselId, (s.carousel c).cfg.station ≠ some st →
          Completes (.resume h (byteOf c.val)) s h .resume .deniedRole [] [] s)

/-- R105, R106. A guard line that reads as its latch gives no event. A change to CLOSED is latched and starts an
arbiter run. A change to OPEN in MOVING posts STOP, cancels the move timer, loads the stop timer with the base time
and goes to STOPPING, keeping choice and last move; in any other state it is only latched. With a base time of 0 the
stop timer expires at once (R107) and the carousel is FAULTED with TIMEOUT. R104, R107. A running move timer that
expires in MOVING posts STOP, a running stop timer that expires in STOPPING posts none; either takes the carousel to
FAULTED with cause TIMEOUT, with a CAROUSEL notice and an arbiter run due. (That this expiry belongs to the same step
is the model's choice, log entry 11.) -/
def Obligations.GuardsAndTimersStopAMove : Prop :=
  (
    ∀ (c : CarouselId) (s : State), s.part ≠ .halted → (s.motion c).stopTimer ≠ some 0 →
      let x := s.carousel c
      let base := (look s.globals.profiles x.cfg.profile).baseTime
      (∀ level, level = x.motion.guardLatch →
          Happens (.guardChange c level) s [] (s.modCarousel c fun y => { y with guardLine := level }))
        ∧ (x.motion.guardLatch = .opened →
            HappensThen (.guardChange c .closed) s [] { arbiter := true }
              (s.modCarousel c fun y =>
                { y with guardLine := .closed, motion := { y.motion with guardLatch := .closed } }))
        ∧ (x.motion.guardLatch = .closed → x.motion.state ≠ .moving →
            Happens (.guardChange c .opened) s []
              (s.modCarousel c fun y =>
                { y with guardLine := .opened, motion := { y.motion with guardLatch := .opened } }))
        ∧ (x.motion.guardLatch = .closed → x.motion.state = .moving → 0 < base →
            Happens (.guardChange c .opened) s [(drivePort c, .stop)]
              (s.modCarousel c fun y =>
                { y with guardLine := .opened,
                         motion := { y.motion with guardLatch := .opened, state := .stopping, moveTimer := none,
                                                   stopTimer := some base } }))
        ∧ (x.motion.guardLatch = .closed → x.motion.state = .moving → base = 0 →
            HappensThen (.guardChange c .opened) s
              [(drivePort c, .stop),
               (stockPort, .carousel c .faulted (some .timeout) x.motion.hold x.balance.overweight x.balance.peak)]
              { arbiter := true }
              (s.modCarousel c fun y =>
                { y with guardLine := .opened,
                         motion := { y.motion with guardLatch := .opened, state := .faulted, chosen := none,
                                                   lastMove := none, moveTimer := none, stopTimer := none,
                                                   fault := some .timeout } })))
  ∧ (
    ∀ (c : CarouselId) (left : Nat) (s : State), s.part ≠ .halted →
      let x := s.carousel c
      let notice := Notice.carousel c .faulted (some .timeout) x.motion.hold x.balance.overweight x.balance.peak
      let u := s.modMotion c fun y =>
        { y with state := .faulted, chosen := none, lastMove := none, moveTimer := none, stopTimer := none,
                 fault := some .timeout }
      (x.motion.state = .moving → x.motion.moveTimer = some left →
          HappensThen (.moveTimerExpiry c) s [(drivePort c, .stop), (stockPort, notice)] { arbiter := true } u)
        ∧ (x.motion.state = .stopping → x.motion.stopTimer = some left →
          HappensThen (.stopTimerExpiry c) s [(stockPort, notice)] { arbiter := true } u))

/-! ## Consolidation lanes (chapter 7) -/

/-- R119, R120, R121, R123. An ARRIVAL that a line or set awaits moves one of its tyres from transit to arrived; a
FILLING lane whose every tyre has arrived with no stray goes to COMPLETE, a CANCELLING lane with nothing left in transit
to CANCELLED, each with LANE_STATE to L11 and to L0. -/
def Obligations.AMatchedArrivalMovesOneTyre : Prop :=
  ∀ (h : Header) (l : LaneId) (article : BitVec 24) (week : BitVec 16) (m : Match) (s : State),
    s.readyFor h.port → h.port = lanePort → 1 ≤ article.toNat → article.toNat ≤ 999999 → 1 ≤ week.toNat →
    week.toNat ≤ 4095 → findMatch article.toNat week.toNat 0 (s.lane l).lines = some m →
    let x := s.lane l
    let lines := x.lines.modify m.line (Line.modTyres m.set fun t =>
      { t with transit := t.transit - 1, arrived := t.arrived + 1 })
    let full := x.state = .filling ∧ x.strays = 0 ∧ ∀ y ∈ lines, y.tyres.arrived = y.quantity
    let drained := x.state = .cancelling ∧ ∀ y ∈ lines, y.tyres.transit = 0
    let i := Instr.arrival h (byteOf l.val) article week
    let body := u8 m.line ++ opt8 m.set ++ u8 0
    let after (state : LaneState) := s.modLane l fun y =>
      { y with state := state, order := y.order.map fun o => { o with lines := lines } }
    (full → Completes i s h .arrival .done body (laneStateBoth l .complete x.ref 0) (after .complete))
      ∧ (drained → Completes i s h .arrival .done body (laneStateBoth l .cancelled x.ref x.strays) (after .cancelled))
      ∧ (¬ full → ¬ drained → Completes i s h .arrival .done body [] (after x.state))

/-- R124. An ARRIVAL no line awaits is a stray: the stray count rises by one and stays at 15, STRAY goes to L11 and to
L0, and a COMPLETE lane goes back to FILLING with its LANE_STATE notices. R125, R121. STRAY_CLEAR lowers the stray
count by n, not below 0, and answers what is left; a FILLING lane made whole by it goes to COMPLETE. (The STRAY notice
carries the lane state after the event, log entry 29.) -/
def Obligations.StraysAreCountedAndCleared : Prop :=
  (
    ∀ (h : Header) (l : LaneId) (article : BitVec 24) (week : BitVec 16) (s : State),
      s.readyFor h.port → h.port = lanePort → 1 ≤ article.toNat → article.toNat ≤ 999999 → 1 ≤ week.toNat →
      week.toNat ≤ 4095 → findMatch article.toNat week.toNat 0 (s.lane l).lines = none →
      let x := s.lane l
      let n := min 15 (x.strays + 1)
      let state := if x.state = .complete then .filling else x.state
      let stray := Notice.stray l article.toNat week.toNat n state
      Completes (.arrival h (byteOf l.val) article week) s h .arrival .done [0xFF, 0xFF, 1]
        ([(lanePort, stray), (stockPort, stray)]
          ++ if x.state = .complete then laneStateBoth l .filling x.ref n else [])
        (s.modLane l fun y => { y with strays := n, state := state }))
  ∧ (
    ∀ (h : Header) (l : LaneId) (n : Nat) (s : State), s.readyFor h.port → h.port = lanePort → 1 ≤ n → n ≤ 15 →
      let x := s.lane l
      let left := x.strays - n
      let full := x.state = .filling ∧ x.strays ≠ 0 ∧ left = 0 ∧ ∀ y ∈ x.lines, y.tyres.arrived = y.quantity
      Completes (.strayClear h (byteOf l.val) (byteOf n)) s h .strayClear .done (u8 left)
        (if full then laneStateBoth l .complete x.ref 0 else [])
        (s.modLane l fun y => { y with strays := left, state := if full then .complete else y.state }))

/-- R126. LANE_RELEASE takes a COMPLETE or CANCELLED lane without strays to RELEASED and keeps the state it left;
any other lane refuses it. R127. LANE_EMPTY of a RELEASED lane posts ORDER_STATE to L0, DISPATCHED or CLEARED by
the state the lane was released from, and the lane goes to FREE with no order and no stray; any other lane
refuses it. A lane number above 31 is BAD_FORM for both. -/
def Obligations.LaneReleaseAndLaneEmptyEndAnOrder : Prop :=
  (
    ∀ (h : Header) (l : LaneId) (s : State), s.readyFor h.port → h.port = lanePort →
      let x := s.lane l
      let i := Instr.laneRelease h (byteOf l.val)
      if x.strays = 0 ∧ x.state = .complete then
        Completes i s h .laneRelease .done [] []
          (s.modLane l fun y => { y with state := .released, releasedFrom := some .complete })
      else if x.strays = 0 ∧ x.state = .cancelled then
        Completes i s h .laneRelease .done [] []
          (s.modLane l fun y => { y with state := .released, releasedFrom := some .cancelled })
      else Completes i s h .laneRelease .wrongState [] [] s)
  ∧ (
    ∀ (h : Header) (l : LaneId) (s : State), s.readyFor h.port → h.port = lanePort →
      let x := s.lane l
      let i := Instr.laneEmpty h (byteOf l.val)
      (∀ ending, x.state = .released →
          (x.releasedFrom = some .complete ∧ ending = .dispatched ∨ x.releasedFrom = some .cancelled ∧ ending = .cleared) →
          Completes i s h .laneEmpty .done [] [(stockPort, .orderState l x.ref ending)]
            (s.modLane l fun _ => { state := .free, order := none, timer := none, strays := 0, releasedFrom := none }))
        ∧ (x.state ≠ .released → Completes i s h .laneEmpty .wrongState [] [] s))
  ∧ (
    ∀ (h : Header) (v : Byte) (s : State), s.readyFor h.port → h.port = lanePort → 31 < v.toNat →
      Completes (.laneRelease h v) s h .laneRelease .badForm [] [] s
        ∧ Completes (.laneEmpty h v) s h .laneEmpty .badForm [] [] s)

/-! ## Orders (chapter 4) -/

/-- R53. ORDER_OPEN takes a FREE lane without strays: OPEN with the reference, the urgent flag and no line, its
timer started; any other lane refuses it. R56. The order-open timer of an OPEN lane expires: the order is
discarded, the lane is FREE with its stray count kept, and ORDER_STATE DROPPED goes to L0. In any other state,
or with the timer stopped, there is no such event (log entry 17). -/
def Obligations.AnOpenOrderHasAFreeLaneAndATimer : Prop :=
  (
    ∀ (h : Header) (l : LaneId) (ref : BitVec 32) (urgent : Bool) (s : State), s.readyFor h.port → h.port = stockPort →
      let x := s.lane l
      let i := Instr.orderOpen h (byteOf l.val) ref (if urgent then 1 else 0)
      if x.state = .free ∧ x.strays = 0 then
        Completes i s h .orderOpen .done [] []
          (s.modLane l fun y =>
            { y with state := .opened, order := some { ref := ref, urgent := urgent, lines := [], closeStamp := none },
                     timer := some s.globals.orderOpenTime })
      else Completes i s h .orderOpen .wrongState [] [] s)
  ∧ (
    ∀ (l : LaneId) (s : State), s.part ≠ .halted →
      let x := s.lane l
      if x.state = .opened ∧ x.timer ≠ none then
        Happens (.orderOpenTimerExpiry l) s [(stockPort, .orderState l x.ref .dropped)]
          (s.modLane l fun y => { y with state := .free, order := none, timer := none })
      else Happens (.orderOpenTimerExpiry l) s [] s)

/-- R54, R55. ORDER_LINES on an OPEN lane with room appends its lines, every tyre open, and starts the timer again;
the final frame stops the timer, takes the close stamp, goes to FILLING and makes one allocation pass due. (The stamp
issued is the counter's value, log entry 3.) -/
def Obligations.OrderLinesAppendAndCloseTheOrder : Prop :=
  ∀ (h : Header) (l : LaneId) (final : Bool) (specs : List LineSpec) (s : State),
    s.readyFor h.port → h.port = stockPort → 1 ≤ specs.length → specs.length ≤ 4 → (∀ x ∈ specs, LineSpecLegal x) →
    let x := s.lane l
    let i := Instr.orderLines h (byteOf l.val) (if final then 1 else 0) (specs.map lineSpecField)
    (x.state ≠ .opened → Completes i s h .orderLines .wrongState [] [] s)
      ∧ ∀ o, x.state = .opened → x.order = some o →
        let lines := o.lines ++ specs.map newLineOf
        let fits := o.lines.length + specs.length ≤ 8
          ∧ (o.lines.map Line.quantity).sum + (specs.map LineSpec.quantity).sum ≤ s.globals.laneCapacity
        (¬ fits → Completes i s h .orderLines .noSpace [] [] s)
          ∧ (fits → final = false →
            Completes i s h .orderLines .done [] []
              (s.modLane l fun y =>
                { y with order := some { o with lines := lines }, timer := some s.globals.orderOpenTime }))
          ∧ (fits → final = true →
            CompletesThen i s h .orderLines .done [] [] { pass := true }
              { s.modLane l (fun y =>
                  { y with state := .filling, timer := none,
                           order := some { o with lines := lines, closeStamp := some s.stamp } }) with
                stamp := s.stamp + 1 })

/-- R72. ORDER_CANCEL discards an OPEN order, takes a COMPLETE lane to CANCELLED with LANE_STATE to L11, and is
refused in FREE, CANCELLING, CANCELLED and RELEASED. R72. ORDER_CANCEL of a FILLING lane takes every live pick
task of the lane away, puts its allocated tyres back to open, and leaves the lane CANCELLING with tyres in
transit, else CANCELLED with tyres arrived, else FREE with no order. A QUEUED task is freed and a PRESENTED one
becomes a tombstone, each with its bay's reserved falling by its count; TASK_CANCELLED goes to the station of each
tombstone, then LANE_STATE to L11 where the lane is not FREE, then the response DONE. (Tasks go in ticket order, log
entry 20; a carousel without a station gets no notice, log entry 26.) -/
def Obligations.OrderCancelByLaneState : Prop :=
  (
    ∀ (h : Header) (l : LaneId) (s : State), s.readyFor h.port → h.port = stockPort →
      let x := s.lane l
      let i := Instr.orderCancel h (byteOf l.val)
      (x.state = .opened →
          Completes i s h .orderCancel .done [] []
            (s.modLane l fun y => { y with state := .free, order := none, timer := none }))
        ∧ (x.state = .complete →
          Completes i s h .orderCancel .done [] [(lanePort, .laneState l .cancelled x.ref x.strays)]
            (s.modLane l fun y => { y with state := .cancelled }))
        ∧ (x.state ∈ [.free, .cancelling, .cancelled, .released] → Completes i s h .orderCancel .wrongState [] [] s))
  ∧ (
    ∀ (h : Header) (l : LaneId) (o : Order) (s : State), s.readyFor h.port → h.port = stockPort →
      (s.lane l).state = .filling → (s.lane l).order = some o →
      (∀ t y, s.task t = some y → y.state = .cancelled → y.work = none) →
      let mine (y : Task) : Prop := y.work.map PickWork.lane = some l
      let share (r : BayRef) : Nat := ((List.finRange 256).map fun t =>
        match s.task t with
        | some y => if y.work.map PickWork.lane = some l ∧ y.bay = r then y.count else 0
        | none => 0).sum
      ∃ x : State, exec (.orderCancel h (byteOf l.val)) s = .next x.settle
        ∧ (∀ t y w, x.task t = some y → y.work = some w → w.lane ≠ l)
        ∧ (∀ t, (∀ y w, s.task t = some y → y.work = some w → w.lane ≠ l) → x.task t = s.task t)
        ∧ (∀ t y, s.task t = some y → mine y →
            x.task t = if y.state = .presented then some { y with state := .cancelled, work := none } else none)
        ∧ (∀ m, m ≠ l → x.lane m = s.lane m)
        ∧ (if ∃ y ∈ o.lines, 0 < y.tyres.transit then
            x.lane l = { s.lane l with state := .cancelling, order := some { o with lines := o.lines.map Line.cancel } }
          else if ∃ y ∈ o.lines, 0 < y.tyres.arrived then
            x.lane l = { s.lane l with state := .cancelled, order := some { o with lines := o.lines.map Line.cancel } }
          else x.lane l = { s.lane l with state := .free, order := none, timer := none })
        ∧ ((∀ t y, s.task t = some y → mine y → y.kind = .pick) →
          (∀ r, ((∀ t y, s.task t = some y → mine y → y.bay ≠ r) → x.bay r = s.bay r)
              ∧ ∀ t y, s.task t = some y → mine y → y.bay = r →
                x.bay r = ({ s.bay r with reserved := (s.bay r).reserved - share r } : Bay).settleEmpty)
            ∧ (∀ c k, (x.carrier c k).payload = (s.carrier c k).payload)
            ∧ (∀ c, (x.carousel c).balance = (s.carousel c).balance ∧ (x.carousel c).cfg = (s.carousel c).cfg)
            ∧ x.discs = s.discs ∧ x.globals = s.globals
            ∧ x.due.freed = (List.finRange 256).any (fun t => ((s.task t).map fun y =>
                decide (y.work.map PickWork.lane = some l ∧ y.state = .queued)) = some true)
            ∧ x.due.face = (List.finRange 256).any (fun t => ((s.task t).map fun y =>
                decide (y.work.map PickWork.lane = some l ∧ y.state = .presented)) = some true)
            ∧ ∀ q, x.port q = s.portAfter h .orderCancel
                (((List.finRange 256).filterMap fun t => (s.task t).bind fun y =>
                    if y.work.map PickWork.lane = some l ∧ y.state = .presented then
                      (s.carousel y.bay.carousel).cfg.station.map fun st =>
                        (stationPort st, Notice.taskCancelled y.bay.carousel t)
                    else none)
                  ++ if (x.lane l).state = .free then [] else
                    [(lanePort, .laneState l (x.lane l).state o.ref (s.lane l).strays)]) .done [] q))

/-! ## The stock map (chapter 1) and the balance (chapter 2) -/

/-- R7, R24, R26, R27. One change of a bay of a carrier in use, taken where every planned payload is the sum R7 gives,
every profile entry what R24 defines and the peak what R26 defines, leaves all three laws true. -/
def Obligations.OneChangeKeepsTheBalanceLaw : Prop :=
  ∀ (r : BayRef) (f : Bay → Bay) (s : State),
    let x := s.carousel r.carousel
    let y := (s.changeBay r f).carousel r.carousel
    x.cfg.legal → r.carrier.val < x.cfg.n → x.payloadsRight → x.profileRight → x.balance.peakRight x.cfg.n →
      y.payloadsRight ∧ y.profileRight ∧ y.balance.peakRight y.cfg.n

/-- R23, R32. From offset k the way to offset t takes at most N/2 steps and ends at t, forward where both ways are equally
long; the target offset of a carrier brings that carrier to the face. -/
def Obligations.TheShorterWayEndsAtTheTarget : Prop :=
  ∀ n k t : Nat, n % 2 = 0 → 8 ≤ n → k < n → t < n →
    let way := rotation n k t
    way.2 ≤ n / 2
      ∧ (way.1 = .forward → (k + way.2) % n = t)
      ∧ (way.1 = .backward → (k + n - way.2) % n = t ∧ way.2 < n / 2)
      ∧ faceCarrier n (targetOffset n k) = k

/-- R28, R29. The placeable count is the first n from the upper bound downwards whose resulting peak is at most the put
limit, with that peak; where none passes there is none. -/
def Obligations.ThePlaceableCountIsTheLargestThatPasses : Prop :=
  ∀ (n c u limit n0 : Nat) (entries : Vector Int 20),
    let passes := fun m : Nat => resultingPeak n c entries ((m * u : Nat) : Int) ≤ limit
    (∀ m peak, placeable n c entries u limit n0 = some (m, peak) →
        1 ≤ m ∧ m ≤ n0 ∧ passes m ∧ peak = resultingPeak n c entries ((m * u : Nat) : Int)
          ∧ ∀ k, m < k → k ≤ n0 → ¬ passes k)
      ∧ (placeable n c entries u limit n0 = none → ∀ k, 1 ≤ k → k ≤ n0 → ¬ passes k)

/-- R15, R16. LOAD_BAY with every field in its domain: refused in the order of Table 1-5, otherwise one change of
the bay: the lot and count given, or EMPTY for a count of 0, reserved and incoming 0, the marks as they were.
R15. LOAD_BAY with article 0 and count 0 empties the bay; the other lot fields are not checked. -/
def Obligations.LoadBayWritesTheBook : Prop :=
  (
    ∀ (h : Header) (r : BayRef) (article : BitVec 24) (week mass width : BitVec 16) (count : Nat) (s : State),
      s.readyFor h.port → h.port = stockPort → 1 ≤ article.toNat → article.toNat ≤ 999999 → 1 ≤ week.toNat →
      week.toNat ≤ 4095 → 1 ≤ mass.toNat → mass.toNat ≤ 1000 → 100 ≤ width.toNat → width.toNat ≤ 500 → count ≤ 15 →
      let x := s.carousel r.carousel
      let f : Bay → Bay := fun b =>
        { b with lot := if count = 0 then none else some ⟨article.toNat, week.toNat, mass.toNat, width.toNat⟩,
                 count := count, reserved := 0, incoming := 0 }
      let i := Instr.loadBay h (byteOf r.carousel.val) (byteOf r.carrier.val) (byteOf r.bay.val) article week mass width
        (byteOf count)
      if x.cfg.n ≤ r.carrier.val then Completes i s h .loadBay .noSuch [] [] s
      else if x.motion.state ∉ [.offline, .withdrawn] ∨ (s.bay r).disputed = true then
        Completes i s h .loadBay .wrongState [] [] s
      else if stackLimit x.cfg.bayHeight width.toNat < count
          ∨ x.cfg.payloadLimit < (s.carrier r.carousel r.carrier).payload - (s.bay r).mass + count * mass.toNat then
        Completes i s h .loadBay .badRange [] [] s
      else
        CompletesThen i s h .loadBay .done [] (s.bookPosts r f)
          { select := x.flips r.carrier r.bay f, unhold := x.flips r.carrier r.bay f } (s.booked r f))
  ∧ (
    ∀ (h : Header) (r : BayRef) (week mass width : BitVec 16) (s : State),
      s.readyFor h.port → h.port = stockPort → r.carrier.val < (s.carousel r.carousel).cfg.n →
      (s.motion r.carousel).state ∈ [.offline, .withdrawn] → (s.bay r).disputed = false →
      (s.carrier r.carousel r.carrier).payload - (s.bay r).mass ≤ (s.carousel r.carousel).cfg.payloadLimit →
      let f : Bay → Bay := fun b => { b with lot := none, count := 0, reserved := 0, incoming := 0 }
      let flips := (s.carousel r.carousel).flips r.carrier r.bay f
      CompletesThen
        (.loadBay h (byteOf r.carousel.val) (byteOf r.carrier.val) (byteOf r.bay.val) 0 week mass width 0) s h .loadBay
        .done [] (s.bookPosts r f) { select := flips, unhold := flips } (s.booked r f))

/-- R17, R18, R19, R74, R94, R148, R165, R166. The eight reads answer DONE and change nothing but the port they arrive on:
each response carries what its rule gives, from the state as the request finds it. -/
def Obligations.ReadsAnswerAndChangeNothing : Prop :=
  ∀ (h : Header) (s : State), s.readyFor h.port →
    (h.port = stockPort →
        Completes (.readStatus h) s h .readStatus .done s.readStatusBody [] s
          ∧ (∀ c, Completes (.readCarousel h (byteOf c.val)) s h .readCarousel .done (s.readCarouselBody c) [] s)
          ∧ (∀ r : BayRef, r.carrier.val < (s.carousel r.carousel).cfg.n →
              Completes (.readBay h (byteOf r.carousel.val) (byteOf r.carrier.val) (byteOf r.bay.val)) s h .readBay .done
                (s.readBayBody r) [] s)
          ∧ (∀ c k, k.val < (s.carousel c).cfg.n →
              Completes (.readCarrier h (byteOf c.val) (byteOf k.val)) s h .readCarrier .done (s.readCarrierBody c k)
                [] s)
          ∧ (∀ a : BitVec 24, 1 ≤ a.toNat → a.toNat ≤ 999999 →
              Completes (.findLots h a) s h .findLots .done (s.findLotsBody a.toNat) [] s)
          ∧ (∀ i x, s.disc i = .record x →
              Completes (.readDiscrepancy h (byteOf i.val)) s h .readDiscrepancy .done
                (s.readDiscrepancyBody (some (i, x))) [] s)
          ∧ (s.discOrder = [] →
              Completes (.readDiscrepancy h 0xFF) s h .readDiscrepancy .done (s.readDiscrepancyBody none) [] s)
          ∧ (∀ i x rest, s.discOrder = i :: rest → s.disc i = .record x →
              Completes (.readDiscrepancy h 0xFF) s h .readDiscrepancy .done (s.readDiscrepancyBody (some (i, x))) [] s))
      ∧ (h.port = stockPort ∨ h.port = lanePort → ∀ l : LaneId,
          Completes (.readLane h (byteOf l.val) 0) s h .readLane .done (s.readLaneHead l) [] s
            ∧ ∀ p, 1 ≤ p → p ≤ 8 →
              Completes (.readLane h (byteOf l.val) (byteOf p)) s h .readLane .done (s.readLanePart l p) [] s)
      ∧ ∀ st c first, h.port = stationPort st → (s.carousel c).cfg.station = some st → first ≤ 255 →
          Completes (.readFace h (byteOf c.val) (byteOf first)) s h .readFace .done (s.readFaceBody c first) [] s

/-! ## Put-away (chapter 3) -/

/-- R42. The search takes the first candidate in order of carousel, carrier and bay that no other candidate beats by
keys 1 to 5 of Table 3-2: it beats every candidate listed before it and no candidate listed after it beats it.
R39, R40, R41. A candidate lies on a carrier in use of a carousel in service that is not OVERWEIGHT, in a bay
without marks that is EMPTY or holds the lot; its count is at least 1 and at most the request, the bay's room
and the carrier's headroom, and its resulting peak is within the put limit. R42. Its distance for key 5 is worked from the
held offset, and in MOVING, STOPPING and SUSPENDED from the offset at which the move started, the one whose way to the
target (R32) is the last move. (For a SUSPENDED carousel R97 holds another offset; key 5 follows R42, log entry 32.) -/
def Obligations.TheBestCandidateIsChosen : Prop :=
  (
    ∀ (lot : Lot) (count : Nat) (pref : Option CarouselId) (x : Candidate) (s : State),
      best? Candidate.better (s.candidates lot count pref) = some x →
        ∃ before after, s.candidates lot count pref = before ++ x :: after
          ∧ (∀ y ∈ before, x.better y = true) ∧ ∀ y ∈ after, y.better x = false)
  ∧ (
    ∀ (lot : Lot) (count : Nat) (pref : Option CarouselId) (x : Candidate) (s : State),
      x ∈ s.candidates lot count pref →
        let c := s.carousel x.bay.carousel
        let b := s.bay x.bay
        c.motion.state ∉ [.offline, .unsynced, .faulted, .withdrawn] ∧ c.balance.overweight = false
          ∧ x.bay.carrier.val < c.cfg.n ∧ b.auditHold = false ∧ b.disputed = false
          ∧ (x.cls = .a ∧ b.lot = some lot ∧ x.count + b.count + b.incoming ≤ stackLimit c.cfg.bayHeight lot.width
            ∨ x.cls = .b ∧ b.lot = none ∧ x.count ≤ stackLimit c.cfg.bayHeight lot.width)
          ∧ 1 ≤ x.count ∧ x.count ≤ count
          ∧ x.count ≤ headroom c.cfg.payloadLimit (s.carrier x.bay.carousel x.bay.carrier).payload lot.unitMass
          ∧ x.peak = resultingPeak c.cfg.n x.bay.carrier.val c.balance.entries ((x.count * lot.unitMass : Nat) : Int)
          ∧ x.peak ≤ c.cfg.putLimit
          ∧ let turning := c.motion.state ∈ [.moving, .stopping, .suspended]
            let steps (k : Nat) : Nat := (rotation c.cfg.n k (targetOffset c.cfg.n x.bay.carrier.val)).2
            (∀ k, ¬ turning → c.motion.held = some k → x.steps = steps k)
              ∧ ∀ k w, turning → c.motion.chosen = some w → k < c.cfg.n → w.target < c.cfg.n →
                  c.motion.lastMove = some ⟨(rotation c.cfg.n k w.target).1, (rotation c.cfg.n k w.target).2⟩ →
                  x.steps = steps k)

/-- R38, R43, R44. PUT_REQUEST with every field in its domain: NO_SPACE without a free ticket, NO_ROOM without a
candidate, both changing nothing. Otherwise the bay takes the lot and n more incoming tyres, the task takes the ticket
and the next stamp, and the answer carries ticket, bay and n, clamped where n is below the request. (The stamp issued
is the counter's value, log entry 3.) -/
def Obligations.PutRequestPromisesTyresToTheBestBay : Prop :=
  ∀ (h : Header) (article : BitVec 24) (week mass width : BitVec 16) (count : Nat) (pref : Option CarouselId) (s : State),
    s.readyFor h.port → h.port = stockPort → 1 ≤ article.toNat → article.toNat ≤ 999999 → 1 ≤ week.toNat →
    week.toNat ≤ 4095 → 1 ≤ mass.toNat → mass.toNat ≤ 1000 → 100 ≤ width.toNat → width.toNat ≤ 500 →
    1 ≤ count → count ≤ 15 →
    let lot : Lot := ⟨article.toNat, week.toNat, mass.toNat, width.toNat⟩
    let i := Instr.putRequest h article week (byteOf count) mass width ((pref.map fun c => byteOf c.val).getD 0xFF)
    (s.freeTicket? = none → Completes i s h .putRequest .noSpace [] [] s)
      ∧ (s.freeTicket? ≠ none → best? Candidate.better (s.candidates lot count pref) = none →
          Completes i s h .putRequest .noRoom [] [] s)
      ∧ ∀ t x, s.freeTicket? = some t → best? Candidate.better (s.candidates lot count pref) = some x →
          ∃ y : State, exec i s = .next y.settle
            ∧ (∀ r, y.bay r = if r = x.bay then
                { s.bay r with lot := some lot, incoming := (s.bay r).incoming + x.count } else s.bay r)
            ∧ (∃ now, y.task t = some ⟨.put, x.bay, x.count, none, s.stamp, now⟩
                ∧ (now = .queued ∨ now = .presented)
                ∧ ((s.carousel x.bay.carousel).presents x.bay.carrier = false → now = .queued))
            ∧ (∀ u, u ≠ t → y.task u = s.task u) ∧ y.nextTicket = t + 1
            ∧ ((s.carousel x.bay.carousel).presents x.bay.carrier = false →
                ((y.carousel x.bay.carousel).callFor x.bay.carrier).isSome = true)
            ∧ y.lanes = s.lanes ∧ y.discs = s.discs ∧ y.globals = s.globals ∧ y.starved = s.starved
            ∧ (∀ c, (y.carousel c).cfg = (s.carousel c).cfg ∧ y.motion c = s.motion c)
            ∧ ∃ flags, (y.port h.port).answers
                ⟨responseCode (RequestCode.byte .putRequest), h.tag, if x.count = count then .done else .doneClamped,
                 flags, [byteOf t.val, byteOf x.bay.carousel.val, byteOf x.bay.carrier.val, byteOf x.bay.bay.val,
                   byteOf x.count]⟩

/-- R46, R47, R48. PUT_CONFIRM of j on a PRESENTED put task of n at its own station: the bay's count rises by j and its
incoming falls by n, the task is freed, and with j below n a PUT_REMAINDER for n − j goes to L0. After the response
follows the pass, while the carrier is at the face (log entry 8), and then the rest. -/
def Obligations.PutConfirmStoresTheTyres : Prop :=
  ∀ (h : Header) (t : Ticket) (j : Nat) (x : Task) (st : StationId) (s : State),
    s.readyFor h.port → h.port = stationPort st → s.task t = some x → x.kind = .put → x.state = .presented →
    (s.carousel x.bay.carousel).cfg.station = some st → j ≤ x.count → j ≤ 255 → s.oneCallPerCarrier →
    (s.carousel x.bay.carousel).presents x.bay.carrier = true →
    let f : Bay → Bay := fun b => { b with count := b.count + j, incoming := b.incoming - x.count }
    let lot := (s.bay x.bay).lot.getD ⟨0, 0, 0, 0⟩
    let remainder := if j < x.count then
      [(stockPort, Notice.putRemainder t lot.article lot.week (x.count - j))] else []
    ∃ y : State,
      exec (.putConfirm h (byteOf t.val) (byteOf j)) s
          = .next ((y.releaseHolds.respond ⟨h.port, RequestCode.byte .putConfirm, h.tag⟩ .done []).settlePass).settle
        ∧ y.inner = ((s.booked x.bay f).setTask t none).inner
        ∧ y.due = { unhold := (s.carousel x.bay.carousel).flips x.bay.carrier x.bay.bay f,
                    select := (s.carousel x.bay.carousel).flips x.bay.carrier x.bay.bay f,
                    face := true, freed := true, pass := decide (0 < j) }
        ∧ ∀ q, y.port q = postsTo (s.bookPosts x.bay f ++ remainder) q (if q = h.port then (s.port q).taken else s.port q)

/-- R46, R90. A confirmation is refused and changes nothing: NOT_AT_FACE for a ticket of no task, of another station or of
a QUEUED task; WITHDRAWN for a tombstone; WRONG_STATE for the other kind; BAD_RANGE above the task's count. -/
def Obligations.ConfirmationsAreCheckedInOrder : Prop :=
  ∀ (h : Header) (t : Ticket) (k : Nat) (st : StationId) (kind : TaskKind) (s : State),
    s.readyFor h.port → h.port = stationPort st → k ≤ 255 → (kind = .pick → k ≤ 15) →
    let i := match kind with
      | .pick => Instr.pickConfirm h (byteOf t.val) (byteOf k)
      | .put => Instr.putConfirm h (byteOf t.val) (byteOf k)
    let code := match kind with
      | .pick => RequestCode.pickConfirm
      | .put => RequestCode.putConfirm
    (s.task t = none → Completes i s h code .notAtFace [] [] s)
      ∧ ∀ x, s.task t = some x →
        if (s.carousel x.bay.carousel).cfg.station ≠ some st then Completes i s h code .notAtFace [] [] s
        else if x.state = .cancelled then Completes i s h code .withdrawnTask [] [] s
        else if x.state = .queued then Completes i s h code .notAtFace [] [] s
        else if x.kind ≠ kind then Completes i s h code .wrongState [] [] s
        else x.count < k → Completes i s h code .badRange [] [] s

/-- R50. PUT_CANCEL of a QUEUED put task withdraws its promise: the bay's incoming falls by its count, the task is freed, a
call left with nothing goes, and no PUT_REMAINDER is posted. A ticket of no task is NO_SUCH; a pick task, a PRESENTED put
task or a tombstone is WRONG_STATE. -/
def Obligations.PutCancelWithdrawsThePromise : Prop :=
  ∀ (h : Header) (t : Ticket) (s : State), s.readyFor h.port → h.port = stockPort →
    let i := Instr.putCancel h (byteOf t.val)
    (s.task t = none → Completes i s h .putCancel .noSuch [] [] s)
      ∧ ∀ x, s.task t = some x →
        (x.kind = .pick ∨ x.state ≠ .queued → Completes i s h .putCancel .wrongState [] [] s)
          ∧ (x.kind = .put → x.state = .queued →
            let f : Bay → Bay := fun b => { b with incoming := b.incoming - x.count }
            ∃ y : State,
              exec i s
                  = .next (y.releaseHolds.respond ⟨h.port, RequestCode.byte .putCancel, h.tag⟩ .done []).settle
                ∧ y.tasks = put s.tasks t none
                ∧ (∀ r, y.bay r = if r = x.bay then (f (s.bay r)).settleEmpty else s.bay r)
                ∧ y.lanes = s.lanes ∧ y.discs = s.discs ∧ y.stamp = s.stamp
                ∧ (∀ c, c ≠ x.bay.carousel → y.carousel c = s.carousel c)
                ∧ (let c := s.carousel x.bay.carousel
                   let k := x.bay.carrier
                   let gone := c.callFor k ≠ none ∧ (c.callFor k).bind Call.scope = none
                     ∧ y.queuedOn x.bay.carousel k = []
                   (y.carousel x.bay.carousel).calls
                       = (if gone then c.calls.filter fun q => q.carrier ≠ k else c.calls)
                     ∧ y.motion x.bay.carousel
                       = (if gone ∧ c.motion.state = .waitPermit ∧ c.motion.chosen.map Choice.carrier = some k then
                            { c.motion with state := .idle, chosen := none }
                          else c.motion))
                ∧ ∀ q, y.port q
                    = postsTo (s.bookPosts x.bay f) q (if q = h.port then (s.port q).taken else s.port q))

/-! ## Orders and allocation (chapter 4, continued) -/

/-- R65, R67, R68. a tyres of a bay are allocated: its reserved rises by a, and either the QUEUED task of the same
line and set on the same bay with a stamp that no other such task beats grows by a, or, where there is none, a new
task of a takes the next free ticket and the next stamp. Counts, lots, marks and payloads stay. Only want of a ticket
stops it. (The stamp issued is the counter's value, log entry 3.) -/
def Obligations.AllocationReservesTyres : Prop :=
  ∀ (r : BayRef) (a : Nat) (l : LaneId) (line : Nat) (set : Option Nat) (urgent : Bool) (s : State), 1 ≤ a →
    (s.allocateTo r a l line set urgent = none → s.freeTicket? = none ∧ s.growable r l line set = [])
      ∧ ∀ y, s.allocateTo r a l line set urgent = some y →
        (∀ q, y.bay q = if q = r then { s.bay r with reserved := (s.bay r).reserved + a } else s.bay q)
          ∧ (∀ c k, (y.carrier c k).payload = (s.carrier c k).payload)
          ∧ y.lane l = (s.modLine l line (Line.modTyres set fun t =>
              { t with openTyres := t.openTyres - a, allocated := t.allocated + a })).lane l
          ∧ (∀ m, m ≠ l → y.lane m = s.lane m)
          ∧ ((∃ t x, oldestTask? (s.growable r l line set) = some (t, x)
                ∧ (∃ now, y.task t = some { x with count := x.count + a, state := now })
                ∧ ∀ u, u ≠ t → y.task u = s.task u)
              ∨ (s.growable r l line set = [] ∧ ∃ t now, s.freeTicket? = some t
                ∧ y.task t = some ⟨.pick, r, a, some ⟨l, line, set, urgent⟩, s.stamp, now⟩
                ∧ (∀ u, u ≠ t → y.task u = s.task u) ∧ y.nextTicket = t + 1))

/-- R64, R65, R60. An unmatched line with open tyres: the pass allocates min(free, open) to the most preferred eligible
bay (Table 4-6) of the oldest week any has (State.allocateTo), and goes on with the tyres left; a visit that does not
stop for want of a ticket leaves no open tyre or no eligible bay, and WAITING set exactly with open tyres. An eligible
bay holds the article at or above the minimum week, has free tyres, is not DISPUTED and lies on a carrier in use of a
carousel in service. R66, R67. A set with open tyres is covered whole, from its own week where it is bound, else from
the oldest week that holds enough, which it is bound to: from one bay if one has enough, else the most preferred gives
all it has and at most one bay gives less; a set that cannot be covered, or for which the pool has too few places, is
left as it stands. (Preference is worked afresh after each task, log entry 18.) -/
def Obligations.LinesAndSetsTakeTheOldestWeek : Prop :=
  (
    ∀ (l : LaneId) (i fuel : Nat) (urgent : Bool) (line : Line) (s : State),
      s.line? l i = some line → 0 < line.tyres.openTyres →
      let bays := s.eligibleBays line.article line.minWeek
      let place (q : BayRef) : Nat := (q.carousel.val * 40 + q.carrier.val) * 4 + q.bay.val
      (∀ w q, (w, q) ∈ bays ↔ ∃ lot, (s.bay q).lot = some lot ∧ lot.article = line.article ∧ lot.week = w
          ∧ line.minWeek.getD 0 ≤ w ∧ (s.bay q).disputed = false ∧ 0 < (s.bay q).free
          ∧ q.carrier.val < (s.carousel q.carousel).cfg.n
          ∧ (s.motion q.carousel).state ∉ [.offline, .unsynced, .faulted, .withdrawn])
        ∧ (bays = [] → State.allocUnmatched l i urgent (fuel + 1) s = ⟨s, false⟩)
        ∧ (bays ≠ [] → ∃ w r, (w, r) ∈ bays ∧ (∀ p ∈ bays, w ≤ p.1)
            ∧ (∀ p ∈ bays, p.1 = w →
                s.preferred p.2 r = false ∧ (s.preferred r p.2 = true ∨ place r ≤ place p.2))
            ∧ State.allocUnmatched l i urgent (fuel + 1) s
                = match s.allocateTo r (min (s.bay r).free line.tyres.openTyres) l i none urgent with
                  | none => ⟨s, true⟩
                  | some t => State.allocUnmatched l i urgent fuel t))
  ∧ (
    ∀ (l : LaneId) (i : Nat) (line : Line) (n : Counters) (s : State),
      s.line? l i = some line → line.body = .unmatched n → 0 < n.openTyres →
      let v := s.allocLine l i
      ∃ x, v.state.line? l i = some x ∧ x.article = line.article ∧ x.minWeek = line.minWeek
        ∧ x.tyres.openTyres + x.tyres.allocated = n.openTyres + n.allocated ∧ n.allocated ≤ x.tyres.allocated
        ∧ (v.stopped = false →
            (x.tyres.openTyres = 0 ∨ v.state.eligibleBays line.article line.minWeek = [])
              ∧ x.waiting = decide (0 < x.tyres.openTyres))
        ∧ (v.stopped = true → 0 < x.tyres.openTyres ∧ x.waiting = line.waiting ∧ v.state.freeTicket? = none))
  ∧ (
    ∀ (l : LaneId) (i j : Nat) (urgent : Bool) (line : Line) (x : SetRecord) (s : State),
      s.line? l i = some line → line.sets[j]? = some x → 0 < x.tyres.openTyres →
      let bays := s.eligibleBays line.article line.minWeek
      let need := x.tyres.openTyres
      let holds (w : Nat) : Nat := ((ofWeek w bays).map fun r => (s.bay r).free).sum
      let v := s.allocSet l i j line urgent x
      (v.stopped = true → v.state = s)
        ∧ (∀ w, x.week = some w → holds w < need → v = ⟨s, false⟩)
        ∧ (x.week = none → (∀ p ∈ bays, holds p.1 < need) → v = ⟨s, false⟩)
        ∧ ∀ w, (x.week = some w ∨ x.week = none ∧ w ∈ bays.map Prod.fst ∧ ∀ p ∈ bays, need ≤ holds p.1 → w ≤ p.1) →
          need ≤ holds w → v.stopped = false →
          let given (r : BayRef) : Nat := (v.state.bay r).reserved - (s.bay r).reserved
          (∃ y, v.state.line? l i = some y ∧ y.sets[j]? = some { x with
              week := some w, tyres := { x.tyres with openTyres := 0, allocated := x.tyres.allocated + need } })
            ∧ (∀ r, v.state.bay r = { s.bay r with reserved := (s.bay r).reserved + given r })
            ∧ (∀ r, 0 < given r → (w, r) ∈ bays ∧ given r ≤ (s.bay r).free)
            ∧ ((ofWeek w bays).map given).sum = need
            ∧ (∀ m, m ≠ l → v.state.lane m = s.lane m)
            ∧ ∃ r, (w, r) ∈ bays
                ∧ if ∃ p ∈ bays, p.1 = w ∧ need ≤ (s.bay p.2).free then
                    given r = need ∧ need ≤ (s.bay r).free
                      ∧ ∀ p ∈ bays, p.1 = w → need ≤ (s.bay p.2).free → s.preferred p.2 r = false
                  else
                    given r = (s.bay r).free ∧ (∀ p ∈ bays, p.1 = w → s.preferred p.2 r = false)
                      ∧ ∀ p ∈ bays, ∀ q ∈ bays, 0 < given p.2 → given p.2 < (s.bay p.2).free → 0 < given q.2 →
                          given q.2 < (s.bay q.2).free → p.2 = q.2)

/-! ## Calls and the pick face (chapter 5) -/

/-- R91. PICK_CONFIRM of the whole count m of a PRESENTED pick task at its own station: the bay's count and reserved
fall by m, the m tyres go from allocated to transit in the task's line and set, the task is freed, and the test
of the face is due. R91, R92. PICK_CONFIRM of k below the count m: k tyres go to transit, m − k back to open, the bay
joins the presentation's pending audit with origin SHORT_PICK and the configured mode, and one pass is due; a set with
tyres in transit or arrived keeps its week and its other tasks. R70. Where neither is above 0 the set is released
whole: its other QUEUED tasks are freed, its PRESENTED ones become tombstones with TASK_CANCELLED, each bay's reserved
falls by their counts, and the set is unbound with every tyre open. (Ticket order, log entry 20; no notice without a
station, log entry 26.) -/
def Obligations.PickConfirmMovesTheTyres : Prop :=
  (
    ∀ (h : Header) (t : Ticket) (x : Task) (w : PickWork) (st : StationId) (s : State),
      s.readyFor h.port → h.port = stationPort st → s.task t = some x → x.kind = .pick → x.state = .presented →
      x.work = some w → (s.carousel x.bay.carousel).cfg.station = some st → x.count ≤ 15 → s.oneCallPerCarrier →
      (s.carousel x.bay.carousel).presents x.bay.carrier = true →
      let f : Bay → Bay := fun b => { b with count := b.count - x.count, reserved := b.reserved - x.count }
      let flips := (s.carousel x.bay.carousel).flips x.bay.carrier x.bay.bay f
      ∃ y : State,
        exec (.pickConfirm h (byteOf t.val) (byteOf x.count)) s
            = .next (y.releaseHolds.respond ⟨h.port, RequestCode.byte .pickConfirm, h.tag⟩ .done []).settle
          ∧ y.inner
              = (((s.booked x.bay f).modLine w.lane w.line (Line.modTyres w.set fun c =>
                  { c with allocated := c.allocated - x.count, transit := c.transit + x.count })).setTask t none).inner
          ∧ y.due = { unhold := flips, select := flips, face := true, freed := true }
          ∧ ∀ q, y.port q = postsTo (s.bookPosts x.bay f) q (if q = h.port then (s.port q).taken else s.port q))
  ∧ (
    ∀ (h : Header) (t : Ticket) (k : Nat) (x : Task) (w : PickWork) (p : Presentation) (st : StationId) (s : State),
      s.readyFor h.port → h.port = stationPort st → s.task t = some x → x.kind = .pick → x.state = .presented →
      x.work = some w → (s.carousel x.bay.carousel).cfg.station = some st → k < x.count → k ≤ 15 →
      s.oneCallPerCarrier → (s.carousel x.bay.carousel).face = some p → p.carrier = x.bay.carrier →
      (∀ j, w.set = some j → ∃ r, ((s.line? w.lane w.line).bind fun y => y.sets[j]?) = some r
        ∧ 0 < r.tyres.transit + r.tyres.arrived + k) →
      let f : Bay → Bay := fun b => { b with count := b.count - k, reserved := b.reserved - x.count }
      let flips := (s.carousel x.bay.carousel).flips x.bay.carrier x.bay.bay f
      let scope := mergeScope p.pendingAudit
        { bays := put (Vector.replicate 4 none) x.bay.bay (some .shortPick), mode := s.globals.shortPickMode,
          sweep := false }
      ∃ y : State,
        exec (.pickConfirm h (byteOf t.val) (byteOf k)) s
            = .next (y.releaseHolds.respond ⟨h.port, RequestCode.byte .pickConfirm, h.tag⟩ .done []).settle
          ∧ y.inner
              = ((((s.booked x.bay f).modLine w.lane w.line (Line.modTyres w.set fun c =>
                  { c with allocated := c.allocated - x.count, transit := c.transit + k,
                           openTyres := c.openTyres + (x.count - k) })).setTask t none).modCarousel x.bay.carousel
                  fun c => { c with face := some { p with pendingAudit := scope } }).inner
          ∧ y.due = { unhold := flips, select := flips, face := true, freed := true, pass := true }
          ∧ ∀ q, y.port q = postsTo (s.bookPosts x.bay f) q (if q = h.port then (s.port q).taken else s.port q))
  ∧ (
    ∀ (h : Header) (t : Ticket) (x : Task) (w : PickWork) (j : Nat) (line : Line) (r : SetRecord) (p : Presentation)
      (st : StationId) (s : State),
      s.readyFor h.port → h.port = stationPort st → s.task t = some x → x.kind = .pick → x.state = .presented →
      x.work = some w → (s.carousel x.bay.carousel).cfg.station = some st → 0 < x.count →
      s.oneCallPerCarrier → (s.carousel x.bay.carousel).face = some p → p.carrier = x.bay.carrier →
      w.set = some j → s.line? w.lane w.line = some line → line.sets[j]? = some r → r.tyres.transit = 0 →
      r.tyres.arrived = 0 → (∀ u z, s.task u = some z → z.work ≠ none → z.kind = .pick ∧ z.state ≠ .cancelled) →
      let mine (z : Task) : Bool := decide ((z.work.map fun v => (v.lane, v.line, v.set)) = some (w.lane, w.line, some j))
      let share (q : BayRef) : Nat := ((List.finRange 256).map fun u =>
        match s.task u with
        | some z => if mine z = true ∧ z.bay = q then z.count else 0
        | none => 0).sum
      let scope := mergeScope p.pendingAudit
        { bays := put (Vector.replicate 4 none) x.bay.bay (some .shortPick), mode := s.globals.shortPickMode,
          sweep := false }
      ∃ y : State,
        exec (.pickConfirm h (byteOf t.val) (byteOf 0)) s
            = .next (y.releaseHolds.respond ⟨h.port, RequestCode.byte .pickConfirm, h.tag⟩ .done []).settle
          ∧ (∀ u, y.task u = match s.task u with
              | none => none
              | some z =>
                if u = t then none
                else if mine z = false then some z
                else if z.state = .presented then some { z with state := .cancelled, work := none }
                else none)
          ∧ (∀ q, ((∀ u z, s.task u = some z → mine z = true → z.bay ≠ q) → y.bay q = s.bay q)
              ∧ ∀ u z, s.task u = some z → mine z = true → z.bay = q →
                y.bay q = ({ s.bay q with reserved := (s.bay q).reserved - share q } : Bay).settleEmpty)
          ∧ (∀ c k, (y.carrier c k).payload = (s.carrier c k).payload)
          ∧ y.lane w.lane = (s.modLine w.lane w.line fun z => z.modSet j fun _ =>
              { week := none, tyres := ⟨line.setSize, 0, 0, 0⟩ }).lane w.lane
          ∧ (∀ m, m ≠ w.lane → y.lane m = s.lane m)
          ∧ (y.carousel x.bay.carousel).face = some { p with pendingAudit := scope }
          ∧ (∀ c, (y.carousel c).balance = (s.carousel c).balance ∧ (y.carousel c).cfg = (s.carousel c).cfg)
          ∧ y.discs = s.discs ∧ y.globals = s.globals ∧ y.stamp = s.stamp
          ∧ y.due.pass = true ∧ y.due.face = true ∧ y.due.freed = true
          ∧ ∀ q, y.port q = postsTo ((List.finRange 256).filterMap fun u => (s.task u).bind fun z =>
                if u ≠ t ∧ mine z = true ∧ z.state = .presented then
                  (s.carousel z.bay.carousel).cfg.station.map fun st' =>
                    (stationPort st', Notice.taskCancelled z.bay.carousel u)
                else none) q (if q = h.port then (s.port q).taken else s.port q))

/-- R93, R145. FACE_RELEASE of the carrier presented: every PRESENTED task of the carousel is QUEUED again, its
tombstones are gone, no phase runs and its unsettled bays lose AUDIT_HOLD, no presentation is left, and the carousel
is IDLE, or FAULTED where the fault flag stood. What is left to do waits in one call with a new stamp, no passes and
the set-aside mark. R110. A POSITION that disagrees with the held offset of a PRESENTING carousel ends the
presentation in the same way, without the set-aside mark: FACE_END to the owning station, then FAULTED with
MISPOSITION, whatever cause stood. (The stamp issued is the counter's value, log entry 3.) -/
def Obligations.ReleaseAndMispositionCutThePresentation : Prop :=
  (
    ∀ (h : Header) (c : CarouselId) (p : Presentation) (st : StationId) (s : State),
      s.readyFor h.port → h.port = stationPort st → (s.carousel c).cfg.station = some st → s.oneCallPerCarrier →
      (s.carousel c).face = some p → p.carrier.val < (s.carousel c).cfg.n →
      (∀ t x, s.task t = some x → x.bay.carousel = c → x.state ≠ .queued → x.bay.carrier = p.carrier) →
      ∃ y : State, exec (.faceRelease h (byteOf c.val) (byteOf p.carrier.val)) s = .next y.settle
        ∧ (∀ t, y.task t = match s.task t with
            | none => none
            | some x =>
              if x.bay.carousel = c ∧ x.state = .presented then some { x with state := .queued }
              else if x.bay.carousel = c ∧ x.state = .cancelled then none
              else some x)
        ∧ (y.carousel c).face = none ∧ (y.carousel c).phase = none
        ∧ (y.motion c).state = (if p.faultFlag then .faulted else .idle)
        ∧ (∀ b f q, (s.carousel c).phase = some f → look f.bays b = some q → q.settled = none →
            (y.bay ⟨c, p.carrier, b⟩).auditHold = false ∧ y.disc q.entry = .free)
        ∧ (y.carousel c).calls
            = (s.carousel c).calls
              ++ (if ((s.carousel c).leftover p).isSome ∨ y.queuedOn c p.carrier ≠ [] then
                    [⟨p.carrier, s.stamp, 0, (s.carousel c).leftover p, true⟩] else [])
        ∧ y.lanes = s.lanes ∧ (∀ d, d ≠ c → y.carousel d = s.carousel d)
        ∧ ∃ flags, (y.port h.port).answers ⟨responseCode (RequestCode.byte .faceRelease), h.tag, .done, flags, []⟩)
  ∧ (
    ∀ (h : Header) (c : CarouselId) (offset : Nat) (p : Presentation) (s : State),
      s.readyFor h.port → h.port = drivePort c → s.oneCallPerCarrier → offset < (s.carousel c).cfg.n → offset ≤ 39 →
      (s.motion c).state = .presenting → (s.motion c).held ≠ some offset → (s.carousel c).face = some p →
      (∀ t x, s.task t = some x → x.bay.carousel = c → x.state ≠ .queued → x.bay.carrier = p.carrier) →
      ∃ y : State, exec (.position h (byteOf offset)) s = .next y.settle
        ∧ (∀ t, y.task t = match s.task t with
            | none => none
            | some x =>
              if x.bay.carousel = c ∧ x.state = .presented then some { x with state := .queued }
              else if x.bay.carousel = c ∧ x.state = .cancelled then none
              else some x)
        ∧ (y.carousel c).face = none ∧ (y.carousel c).phase = none
        ∧ (y.motion c).state = .faulted ∧ (y.motion c).fault = some .misposition ∧ (y.motion c).held = (s.motion c).held
        ∧ (y.carousel c).calls
            = (s.carousel c).calls
              ++ (if ((s.carousel c).leftover p).isSome ∨ y.queuedOn c p.carrier ≠ [] then
                    [⟨p.carrier, s.stamp, 0, (s.carousel c).leftover p, false⟩] else [])
        ∧ (∀ st, (s.carousel c).cfg.station = some st →
            y.port (stationPort st) = (s.port (stationPort st)).post (.faceEnd c p.carrier)))

/-- R81. The call selection takes: where eligible calls were passed over 8 times, one of them; otherwise one of the
highest class, and of these at the shortest distance. Among calls alike in this with stamps below 2^31, the
oldest stamp. R81, R82. A call chosen at a distance above 0 takes the carousel to WAIT_PERMIT with its carrier
and target offset, and makes the arbiter due; every eligible call older than it was passed over once more, up to
8. -/
def Obligations.SelectionRanksTheEligibleCalls : Prop :=
  (
    ∀ (c : CarouselId) (r : Ranked) (s : State), s.choose? c = some r →
      r.call ∈ s.eligibleCalls c ∧ r = s.ranked c r.call
        ∧ (if ∃ q ∈ s.eligibleCalls c, 8 ≤ q.passes then
            8 ≤ r.call.passes
              ∧ ((∀ q ∈ s.eligibleCalls c, q.stamp.toNat < 2 ^ 31) →
                  ∀ q ∈ s.eligibleCalls c, 8 ≤ q.passes → r.call.stamp.toNat ≤ q.stamp.toNat)
          else
            ∀ q ∈ s.eligibleCalls c,
              s.callRank c q ≤ r.rank ∧ (s.callRank c q = r.rank → r.steps ≤ (s.ranked c q).steps)
                ∧ ((∀ q ∈ s.eligibleCalls c, q.stamp.toNat < 2 ^ 31) → s.callRank c q = r.rank →
                    (s.ranked c q).steps = r.steps → r.call.stamp.toNat ≤ q.stamp.toNat)))
  ∧ (
    ∀ (c : CarouselId) (r : Ranked) (s : State), s.choose? c = some r → 0 < r.steps →
      let x := s.carousel c
      let t := s.select c
      t.motion c = { x.motion with state := .waitPermit,
                                   chosen := some ⟨r.call.carrier, (x.cfg.n - r.call.carrier.val) % x.cfg.n⟩ }
        ∧ (t.carousel c).calls = x.calls.map (fun q =>
            if (∃ e ∈ s.eligibleCalls c, e.carrier = q.carrier) ∧ q.carrier ≠ r.call.carrier
                ∧ stampOlder q.stamp r.call.stamp = true then
              { q with passes := min 8 (q.passes + 1) }
            else q)
        ∧ t.due.arbiter = true ∧ t.tasks = s.tasks ∧ t.ports = s.ports ∧ ∀ d, d ≠ c → t.carousel d = s.carousel d)

/-- R101, R102. The arbiter grants only to a carousel in WAIT_PERMIT with its latch CLOSED, one whose stamp no other such
carousel beats; the grant writes the last move, posts MOVE, loads the move timer and goes to MOVING. -/
def Obligations.AGrantStartsTheMove : Prop :=
  ∀ (c : CarouselId) (s : State), s.nextGrant? = some c →
    (s.motion c).state = .waitPermit ∧ (s.motion c).guardLatch = .closed
      ∧ ∃ k stamp, (s.motion c).chosen = some k ∧ s.permitStamp? c = some stamp
        ∧ ((∀ d e, s.permitStamp? d = some e → e.toNat < 2 ^ 31) →
            ∀ d e, s.permitStamp? d = some e → stamp.toNat < e.toNat ∨ stamp = e ∧ c ≤ d)
        ∧ ∀ offset, (s.motion c).held = some offset →
          let way := rotation (s.carousel c).cfg.n offset k.target
          let t := s.grant c
          t.inner = (s.modMotion c fun m =>
              { m with state := .moving, lastMove := some ⟨way.1, way.2⟩,
                       moveTimer := some ((look s.globals.profiles (s.carousel c).cfg.profile).baseTime
                         + way.2 * (look s.globals.profiles (s.carousel c).cfg.profile).stepTime) }).inner
            ∧ ∀ q, t.port q = postsTo [(drivePort c, .move k.target way.1 way.2)] q (s.port q)

/-- R84, R85, R86. A presentation starts: the carrier has unheld QUEUED tasks. They become PRESENTED, the carrier's call
goes with its scope as the pending audit, set-aside marks are cleared, the carousel is PRESENTING, and the FACE notice
lists the first 18 tasks with the rest in TASK_ADDED notices. R84. With no unheld task and no scope no presentation is
held: the carousel goes to IDLE, its calls stay, nothing is posted, selection is due. R84, R87, R137. With no unheld
task and a scope, FACE lists no task and the scope is handed over at once: with free entries for its undisputed bays
the phase begins, with AUDIT to the station; with too few entries, or (without the sweep flag) with no bay to count,
the presentation ends with FACE_END, and what is deferred or still QUEUED waits in a new call. (The stamp issued is the
counter's value, log entry 3.) -/
def Obligations.APresentationShowsTheUnheldTasks : Prop :=
  (
    ∀ (c : CarouselId) (k : CarrierId) (st : StationId) (s : State), (s.carousel c).cfg.station = some st →
      let shown := sortBy faceBefore ((s.queuedOn c k).filter fun q => !s.isHeld q.2)
      let scope := ((s.carousel c).callFor k).bind Call.scope
      let entries := shown.map fun q => faceEntry q.1 { q.2 with state := .presented }
      shown ≠ [] →
        let t := s.startPresentation c k
        (t.carousel c) = { s.carousel c with
            motion := { (s.carousel c).motion with state := .presenting, chosen := none, lastMove := none,
                                                   moveTimer := none, stopTimer := none },
            face := some { carrier := k, pendingAudit := scope, deferred := none, faultFlag := false },
            calls := ((s.carousel c).calls.filter fun q => q.carrier ≠ k).map fun q => { q with setAside := false } }
          ∧ (∀ u, t.task u = match s.task u with
              | none => none
              | some x =>
                if x.state = .queued ∧ x.bay.carousel = c ∧ x.bay.carrier = k ∧ s.isHeld x = false then
                  some { x with state := .presented }
                else some x)
          ∧ ∀ q, t.port q
              = postsTo ((stationPort st, .face c k entries.length (entries.take 18) (scopeBays scope))
                  :: (entries.drop 18).map fun e => (stationPort st, .taskAdded c k e)) q (s.port q))
  ∧ (
    ∀ (c : CarouselId) (k : CarrierId) (s : State), (∀ q ∈ s.queuedOn c k, s.isHeld q.2 = true) →
      ((s.carousel c).callFor k).bind Call.scope = none →
      let t := s.startPresentation c k
      t.inner = (s.modMotion c fun m =>
          { m with state := .idle, chosen := none, lastMove := none, moveTimer := none, stopTimer := none }).inner
        ∧ t.ports = s.ports
        ∧ t.due = { s.due with
            select := true,
            arbiter := s.due.arbiter || decide ((s.motion c).state ∈ [.moving, .stopping, .suspended]) })
  ∧ (
    ∀ (c : CarouselId) (k : CarrierId) (scope : Scope) (st : StationId) (s : State),
      (s.carousel c).cfg.station = some st → (∀ q ∈ s.queuedOn c k, s.isHeld q.2 = true) →
      ((s.carousel c).callFor k).bind Call.scope = some scope → (s.carousel c).phase = none →
      (∀ u x, s.task u = some x → x.bay.carousel = c → x.state = .queued) →
      let bays := scope.bayList.filter fun b => !(s.bay ⟨c, k, b⟩).disputed
      let m : Motion := { s.motion c with chosen := none, lastMove := none, moveTimer := none, stopTimer := none }
      let calls := ((s.carousel c).calls.filter fun q => q.carrier ≠ k).map fun q => { q with setAside := false }
      let t := s.startPresentation c k
      (bays ≠ [] → bays.length ≤ s.freeEntries.length →
          t.motion c = { m with state := .presenting } ∧ (t.carousel c).calls = calls
            ∧ (t.carousel c).face = some { carrier := k, pendingAudit := none, deferred := none, faultFlag := false }
            ∧ (∃ f, (t.carousel c).phase = some f ∧ f.mode = scope.mode ∧ f.sweep = scope.sweep
                ∧ ∀ b, (b ∉ bays → look f.bays b = none)
                  ∧ (b ∈ bays → ∃ o e, look scope.bays b = some o ∧ s.disc e = .free ∧ t.disc e = .reserved
                      ∧ look f.bays b = some ⟨o, (s.bay ⟨c, k, b⟩).count, 0, none, none, e, none⟩))
            ∧ (∀ q, t.bay q = if q.carousel = c ∧ q.carrier = k ∧ q.bay ∈ bays then { s.bay q with auditHold := true }
                else s.bay q)
            ∧ t.tasks = s.tasks
            ∧ ∀ q, t.port q = postsTo
                [(stationPort st, .face c k 0 [] (scopeBays (some scope))),
                 (stationPort st, .audit c k (Vector.ofFn fun b => decide (b ∈ bays)))] q (s.port q))
        ∧ (bays = [] ∧ scope.sweep = false ∨ s.freeEntries.length < bays.length →
          let left : Option Scope := if bays = [] then none else
            some { scope with bays := Vector.ofFn fun b => if b ∈ bays then look scope.bays b else none }
          t.motion c = { m with state := .idle } ∧ (t.carousel c).face = none ∧ (t.carousel c).phase = none
            ∧ (t.carousel c).calls
                = calls ++ (if left.isSome ∨ s.queuedOn c k ≠ [] then [⟨k, s.stamp, 0, left, false⟩] else [])
            ∧ t.tasks = s.tasks ∧ t.discs = s.discs ∧ (∀ q, t.bay q = s.bay q) ∧ t.due.select = true
            ∧ ∀ q, t.port q = postsTo
                [(stationPort st, .face c k 0 [] (scopeBays (some scope))), (stationPort st, .faceEnd c k)] q (s.port q)))

/-! ## Stock audits (chapter 8) -/

/-- R131. AUDIT_CARRIER raises a scope of all four bays with origin CARRIER and the named mode: it merges into the
pending audit of the presented carrier, into the carrier's call, or raises a call. A carrier from N on is NO_SUCH;
OFFLINE and WITHDRAWN refuse. R132. AUDIT_SWEEP is checked in the order of Table 8-2; taken, it writes the sweep
context with its cursor at the first carrier and raises the scope of that carrier's four bays with origin SWEEP. A
field of either outside its domain, and a ROLLING sweep with BLOCK, are BAD_FORM. (The stamp issued is the counter's
value, log entry 3.) -/
def Obligations.AuditOrdersRaiseScopes : Prop :=
  (
    ∀ (h : Header) (c : CarouselId) (k : CarrierId) (review : Bool) (s : State), s.readyFor h.port → h.port = stockPort →
      let x := s.carousel c
      let scope : Scope := { bays := Vector.replicate 4 (some .carrier), mode := if review then .review else .adjust,
                             sweep := false }
      let i := Instr.auditCarrier h (byteOf c.val) (byteOf k.val) (if review then 1 else 0)
      if x.cfg.n ≤ k.val then Completes i s h .auditCarrier .noSuch [] [] s
      else if x.motion.state = .offline ∨ x.motion.state = .withdrawn then
        Completes i s h .auditCarrier .wrongState [] [] s
      else if (x.face.map Presentation.carrier) = some k then
        CompletesThen i s h .auditCarrier .done [] [] { face := true }
          (s.modCarousel c fun y =>
            { y with face := y.face.map fun p => { p with pendingAudit := mergeScope p.pendingAudit scope } })
      else if ∃ q ∈ x.calls, q.carrier = k then
        CompletesThen i s h .auditCarrier .done [] [] { select := true }
          (s.modCarousel c fun y =>
            { y with calls := y.calls.map fun q =>
                if q.carrier = k then { q with scope := mergeScope q.scope scope } else q })
      else
        CompletesThen i s h .auditCarrier .done [] [] { select := true }
          { s.modCarousel c (fun y => { y with calls := y.calls ++ [⟨k, s.stamp, 0, some scope, false⟩] }) with
            stamp := s.stamp + 1 })
  ∧ (
    ∀ (h : Header) (c : CarouselId) (first : CarrierId) (n : Nat) (rolling block review : Bool) (s : State),
      s.readyFor h.port → h.port = stockPort → 1 ≤ n → n ≤ 40 → ¬ (rolling = true ∧ block = true) →
      let x := s.carousel c
      let mode : AuditMode := if review then .review else .adjust
      let w : SweepContext :=
        { first := first, n := n, repetition := if rolling then .rolling else .once,
          interleave := if block then .block else .steal, mode := mode, cursor := first, remaining := n }
      let scope : Scope := { bays := Vector.replicate 4 (some .sweep), mode := mode, sweep := true }
      let bit := fun b : Bool => if b then (1 : Byte) else 0
      let i := Instr.auditSweep h (byteOf c.val) (byteOf first.val) (byteOf n) (bit rolling) (bit block) (bit review)
      if x.cfg.n ≤ first.val then Completes i s h .auditSweep .noSuch [] [] s
      else if x.cfg.n < n then Completes i s h .auditSweep .badRange [] [] s
      else if x.motion.state = .offline ∨ x.motion.state = .withdrawn then
        Completes i s h .auditSweep .wrongState [] [] s
      else if x.sweep ≠ none then Completes i s h .auditSweep .busy [] [] s
      else if (x.face.map Presentation.carrier) = some first then
        CompletesThen i s h .auditSweep .done [] [] { face := true }
          (s.modCarousel c fun y =>
            { y with sweep := some w,
                     face := y.face.map fun p => { p with pendingAudit := mergeScope p.pendingAudit scope } })
      else if ∃ q ∈ x.calls, q.carrier = first then
        CompletesThen i s h .auditSweep .done [] [] { select := true }
          (s.modCarousel c fun y =>
            { y with sweep := some w,
                     calls := y.calls.map fun q =>
                       if q.carrier = first then { q with scope := mergeScope q.scope scope } else q })
      else
        CompletesThen i s h .auditSweep .done [] [] { select := true }
          { s.modCarousel c (fun y =>
              { y with sweep := some w, calls := y.calls ++ [⟨first, s.stamp, 0, some scope, false⟩] }) with
            stamp := s.stamp + 1 })
  ∧ (
    ∀ (h : Header) (c k m : Byte) (s : State), s.readyFor h.port → h.port = stockPort →
      5 < c.toNat ∨ 39 < k.toNat ∨ 1 < m.toNat →
      Completes (.auditCarrier h c k m) s h .auditCarrier .badForm [] [] s)
  ∧ (
    ∀ (h : Header) (c k n repetition interleave m : Byte) (s : State), s.readyFor h.port → h.port = stockPort →
      5 < c.toNat ∨ 39 < k.toNat ∨ n.toNat < 1 ∨ 40 < n.toNat ∨ 1 < repetition.toNat ∨ 1 < interleave.toNat
        ∨ 1 < m.toNat ∨ (repetition = 1 ∧ interleave = 1) →
      Completes (.auditSweep h c k n repetition interleave m) s h .auditSweep .badForm [] [] s)

/-- R134. AUDIT_STOP without a sweep context is NO_SUCH. With one and no presentation at the face, the context goes, every
call loses its SWEEP bays and its sweep flag, and a call left without a scope and without a QUEUED task goes too. No notice
is posted. R134, R82. In WAIT_PERMIT the choice goes with its call, and the selection that follows drops a choice whose
call is no longer eligible. R134. At a face, the pending audit, the deferred scope and the sweep flag of a running phase
lose the sweep too; with a PRESENTED task or a running phase the presentation goes on, and with neither and no pending
audit it ends: tombstones freed, FACE_END, what is left in a new call, IDLE or, with the fault flag, FAULTED with its
CAROUSEL notice. (A choice that lapsed is dropped wherever selection runs, log entry 10; the stamp issued is the
counter's value, log entry 3.) -/
def Obligations.AuditStopTakesTheSweepAway : Prop :=
  (
    ∀ (h : Header) (c : CarouselId) (s : State), s.readyFor h.port → h.port = stockPort →
      let x := s.carousel c
      let i := Instr.auditStop h (byteOf c.val)
      let kept (q : Call) : Bool := (q.scope.bind Scope.withoutSweep).isSome || !(s.queuedOn c q.carrier).isEmpty
      let stopped (y : Carousel) : Carousel :=
        { y with sweep := none,
                 calls := (y.calls.map fun q => { q with scope := q.scope.bind Scope.withoutSweep }).filter
                   fun q => q.scope.isSome || !(s.queuedOn c q.carrier).isEmpty }
      (x.sweep = none → Completes i s h .auditStop .noSuch [] [] s)
        ∧ (x.sweep ≠ none → x.face = none → x.phase = none → x.oneCallPerCarrier → x.motion.state ≠ .waitPermit →
            CompletesThen i s h .auditStop .done [] [] { select := true } (s.modCarousel c stopped))
        ∧ (x.sweep ≠ none → x.face = none → x.phase = none → x.oneCallPerCarrier → x.motion.state = .waitPermit →
            CompletesThen i s h .auditStop .done [] [] { select := true }
              (s.modCarousel c fun y =>
                { stopped y with motion :=
                    if ∃ q ∈ y.calls, y.motion.chosen.map Choice.carrier = some q.carrier ∧ kept q = false then
                      { y.motion with state := .idle, chosen := none }
                    else y.motion }))
        ∧ (∀ p, x.sweep ≠ none → x.face = some p → x.oneCallPerCarrier → x.motion.state = .presenting →
          let q : Presentation := { p with pendingAudit := p.pendingAudit.bind Scope.withoutSweep,
                                           deferred := p.deferred.bind Scope.withoutSweep }
          (x.phase ≠ none ∨ (∃ t y, s.task t = some y ∧ y.state = .presented ∧ y.bay.carousel = c) →
              CompletesThen i s h .auditStop .done [] [] { select := true }
                (s.modCarousel c fun y =>
                  { stopped y with face := some q, phase := y.phase.map fun f => { f with sweep := false } }))
            ∧ (x.phase = none → (∀ t y, s.task t = some y → y.bay.carousel = c → y.state ≠ .presented) →
                (∀ t y, s.task t = some y → y.bay.carousel = c → y.state ≠ .queued → y.bay.carrier = p.carrier) →
                q.pendingAudit = none →
                ∃ u : State, exec i s = .next u.settle
                  ∧ (∀ t, u.task t = match s.task t with
                      | none => none
                      | some y => if y.bay.carousel = c ∧ y.state = .cancelled then none else some y)
                  ∧ (u.carousel c).face = none ∧ (u.carousel c).phase = none ∧ (u.carousel c).sweep = none
                  ∧ (u.carousel c).calls = (stopped x).calls
                      ++ (if q.deferred.isSome ∨ s.queuedOn c p.carrier ≠ [] then
                            [⟨p.carrier, s.stamp, 0, q.deferred, false⟩] else [])
                  ∧ u.motion c = { x.motion with state := if p.faultFlag then .faulted else .idle, chosen := none,
                                                 lastMove := none, moveTimer := none, stopTimer := none }
                  ∧ (∀ d, d ≠ c → u.carousel d = s.carousel d) ∧ u.lanes = s.lanes ∧ u.discs = s.discs
                  ∧ u.due.select = true
                  ∧ ∀ r, u.port r = s.portAfter h .auditStop
                      ((x.cfg.station.toList.map fun st => (stationPort st, Notice.faceEnd c p.carrier))
                        ++ (if p.faultFlag then
                              [(stockPort, .carousel c .faulted x.motion.fault x.motion.hold x.balance.overweight
                                x.balance.peak)]
                            else [])) .done [] r)))
  ∧ (
    ∀ (c : CarouselId) (s : State), (s.motion c).state = .waitPermit →
      let t := s.dropLapsed
      s.selectAll = t.selectAll ∧ t.tasks = s.tasks ∧ (t.carousel c).calls = (s.carousel c).calls
        ∧ ((∀ q ∈ (s.carousel c).calls, (s.motion c).chosen.map Choice.carrier = some q.carrier →
              s.eligible c q = false) →
            t.motion c = { s.motion c with state := .idle, chosen := none })
        ∧ (∀ k q, (s.motion c).chosen = some k → (s.carousel c).callFor k.carrier = some q → s.eligible c q = true →
            t.motion c = s.motion c))

/-- R139, R140. AUDIT_COUNT of an unsettled bay of the running phase, where another bay stays unsettled. A count equal to
the snapshot settles the bay: its entry is free again and its AUDIT_HOLD goes, the book is not touched. A first count that
differs, or a second that differs from snapshot and first, is stored and answered RECOUNT. R139. Without such a bay it is
refused with WRONG_STATE. R144, R133. A match of the last unsettled bay ends the phase, and the test of the face is due.
Where the phase carries the sweep flag the sweep first advances: the cursor moves on, with the scope of its carrier
raised; after the last carrier ONCE clears the context with AUDIT_DONE FINISHED, and ROLLING starts again at the first
carrier with AUDIT_DONE ROUND. A scope for the carrier still presented joins the deferred scope. (The stamp issued is
the counter's value, log entry 3.) -/
def Obligations.AuditCountIsJudgedAgainstTheSnapshot : Prop :=
  (
    ∀ (h : Header) (c : CarouselId) (b : BayId) (counted : Nat) (p : Presentation) (f : Phase) (x : PhaseBay)
      (st : StationId) (s : State),
      s.readyFor h.port → h.port = stationPort st → (s.carousel c).cfg.station = some st → counted ≤ 15 →
      (s.carousel c).face = some p → (s.carousel c).phase = some f → look f.bays b = some x → x.settled = none →
      let i := Instr.auditCount h (byteOf c.val) (byteOf b.val) (byteOf counted)
      let stored (y : PhaseBay) : State :=
        s.modCarousel c fun z => { z with phase := some { f with bays := put f.bays b (some y) } }
      (counted = x.snapshot → (∃ d y, d ≠ b ∧ look f.bays d = some y ∧ y.settled = none) →
          ∃ y : State,
            exec i s = .next (y.releaseHolds.respond ⟨h.port, RequestCode.byte .auditCount, h.tag⟩ .done [0, 0xFF]).settle
              ∧ y.inner = ((((stored { x with attempt := x.attempt + 1, settled := some .matched }).setDisc x.entry
                  .free).modBay ⟨c, p.carrier, b⟩ fun z => { z with auditHold := false })).inner
              ∧ y.due = { unhold := true, select := true }
              ∧ ∀ q, y.port q = if q = h.port then (s.port q).taken else s.port q)
        ∧ (counted ≠ x.snapshot → x.attempt = 0 →
            Completes i s h .auditCount .recount [] [] (stored { x with attempt := 1, first := some counted }))
        ∧ (counted ≠ x.snapshot → x.attempt = 1 → x.first ≠ some counted →
            Completes i s h .auditCount .recount [] [] (stored { x with attempt := 2, second := some counted })))
  ∧ (
    ∀ (h : Header) (c : CarouselId) (b : BayId) (counted : Nat) (st : StationId) (s : State),
      s.readyFor h.port → h.port = stationPort st → (s.carousel c).cfg.station = some st → counted ≤ 15 →
      ((s.carousel c).face = none ∨ (s.carousel c).phase = none
        ∨ (∃ f, (s.carousel c).phase = some f ∧ look f.bays b = none)
        ∨ ∃ f x, (s.carousel c).phase = some f ∧ look f.bays b = some x ∧ x.settled ≠ none) →
      Completes (.auditCount h (byteOf c.val) (byteOf b.val) (byteOf counted)) s h .auditCount .wrongState [] [] s)
  ∧ (
    ∀ (h : Header) (c : CarouselId) (b : BayId) (p : Presentation) (f : Phase) (x : PhaseBay) (st : StationId)
      (s : State),
      s.readyFor h.port → h.port = stationPort st → (s.carousel c).cfg.station = some st → x.snapshot ≤ 15 →
      (s.carousel c).face = some p → (s.carousel c).phase = some f → look f.bays b = some x → x.settled = none →
      (∀ d y, d ≠ b → look f.bays d = some y → y.settled ≠ none) →
      let ended (posts : List (PortId × Notice)) (w : Option SweepContext) (u : State → State) : Prop :=
        ∃ y : State,
          exec (.auditCount h (byteOf c.val) (byteOf b.val) (byteOf x.snapshot)) s
              = .next (y.releaseHolds.respond ⟨h.port, RequestCode.byte .auditCount, h.tag⟩ .done [0, 0xFF]).settle
            ∧ y.inner = (u (((s.setDisc x.entry .free).modBay ⟨c, p.carrier, b⟩ fun z =>
                { z with auditHold := false }).modCarousel c fun z => { z with phase := none, sweep := w })).inner
            ∧ y.due = { unhold := true, select := true, face := true }
            ∧ ∀ q, y.port q = postsTo posts q (if q = h.port then (s.port q).taken else s.port q)
      let raised (k : CarrierId) (w : SweepContext) (u : State) : State :=
        let scope : Scope := { bays := Vector.replicate 4 (some .sweep), mode := w.mode, sweep := true }
        if k = p.carrier then
          u.modCarousel c fun z => { z with face := some { p with deferred := mergeScope p.deferred scope } }
        else if ∃ q ∈ (s.carousel c).calls, q.carrier = k then
          u.modCarousel c fun z => { z with calls := z.calls.map fun q =>
            if q.carrier = k then { q with scope := mergeScope q.scope scope } else q }
        else
          { u.modCarousel c (fun z => { z with calls := z.calls ++ [⟨k, s.stamp, 0, some scope, false⟩] }) with
            stamp := s.stamp + 1 }
      (f.sweep = false → ended [] (s.carousel c).sweep id)
        ∧ ((s.carousel c).sweep = none → ended [] none id)
        ∧ ∀ w, f.sweep = true → (s.carousel c).sweep = some w →
          (∀ k : CarrierId, 1 < w.remaining → k.val = (w.cursor.val + 1) % (s.carousel c).cfg.n →
              ended [] (some { w with cursor := k, remaining := w.remaining - 1 }) (raised k w))
            ∧ (w.remaining ≤ 1 → w.repetition = .once → ended [(stockPort, .auditDone c .finished)] none id)
            ∧ (w.remaining ≤ 1 → w.repetition = .rolling →
                ended [(stockPort, .auditDone c .round)] (some { w with cursor := w.first, remaining := w.n })
                  (raised w.first w)))

/-- R139, R141, R143. A count that ends in a discrepancy of a REVIEW phase, where another bay stays unsettled: the bay takes
DISPUTED and loses AUDIT_HOLD with its book as it stood, its entry holds an OPEN record that joins the end of the creation
order, and a DISCREPANCY notice goes to L0. The third count is unsteady where it agrees with none before it. R144. Where
it settles the last bay of a phase without the sweep flag, the phase is gone and the test of the face is due as well. -/
def Obligations.AReviewedDiscrepancyDisputesTheBay : Prop :=
  ∀ (h : Header) (c : CarouselId) (b : BayId) (counted : Nat) (p : Presentation) (f : Phase) (x : PhaseBay)
    (st : StationId) (s : State),
    s.readyFor h.port → h.port = stationPort st → (s.carousel c).cfg.station = some st → counted ≤ 15 →
    (s.carousel c).face = some p → (s.carousel c).phase = some f → look f.bays b = some x → x.settled = none →
    f.mode = .review → counted ≠ x.snapshot → (x.attempt = 1 ∧ x.first = some counted ∨ 2 ≤ x.attempt) →
    ((∃ d y, d ≠ b ∧ look f.bays d = some y ∧ y.settled = none) ∨ f.sweep = false) →
    let r : BayRef := ⟨c, p.carrier, b⟩
    let last := (List.finRange 4).all fun d => decide (d = b) || (look f.bays d).all fun y => y.settled.isSome
    let kind : DiscKind :=
      if (s.bay r).lot = none then .found else if x.snapshot < counted then .surplus else .shortfall
    let entry : DiscRecord :=
      { origin := x.origin, bay := r, lot := (s.bay r).lot.map fun l => (l.article, l.week), book := x.snapshot,
        counted := counted, attempts := x.attempt + 1, kind := kind,
        unsteady := decide (2 ≤ x.attempt ∧ x.first ≠ some counted ∧ x.second ≠ some counted), cut := 0, trimmed := 0,
        state := .opened }
    ∃ y : State,
      exec (.auditCount h (byteOf c.val) (byteOf b.val) (byteOf counted)) s
          = .next (y.releaseHolds.respond ⟨h.port, RequestCode.byte .auditCount, h.tag⟩ .done
              [1, byteOf x.entry.val]).settle
        ∧ y.bay r = { s.bay r with disputed := true, auditHold := false }
        ∧ (∀ q, q ≠ r → y.bay q = s.bay q)
        ∧ y.discs = put s.discs x.entry (.record entry) ∧ y.discOrder = s.discOrder ++ [x.entry]
        ∧ y.tasks = s.tasks ∧ y.lanes = s.lanes ∧ y.globals = s.globals
        ∧ (∀ d, d ≠ c → y.carousel d = s.carousel d)
        ∧ (y.carousel c).phase = (if last then none else some { f with bays := put f.bays b (some
            { x with attempt := x.attempt + 1, settled := some .discrepancy }) })
        ∧ y.due.face = last
        ∧ y.motion c = s.motion c ∧ (y.carousel c).calls = (s.carousel c).calls
        ∧ ∀ q, y.port q = postsTo
            [(stockPort, .discrepancy x.entry r kind x.snapshot counted .opened 0 0)] q
            (if q = h.port then (s.port q).taken else s.port q)

/-- R141, R142. An ADJUST outcome of a count within the stack limit makes the count the book's: the bay's count is the
counted value (with the return to EMPTY at zero), AUDIT_HOLD goes, and the entry holds an ADJUSTED record at the end
of the creation order. R139, R142. AUDIT_COUNT in an ADJUST phase, another bay unsettled: with nothing to cut or trim,
one change of the bay and the DISCREPANCY notice after it. Else put tasks go whole, newest first, until counted plus
incoming is within the stack limit, and their tyres are the trimmed; where no pick task of the bay is of a set, picks
are cut, newest first, until reserved is at most counted, the tyres cut are the record's, and a pass is due. R69, R71.
Each cut, of a set too, is of the newest QUEUED pick by the lesser of the excess and its count; the bay is then compared
afresh. (Article and week recorded are those before the adjustment, log entry 19; tyres a set release takes on the same
bay are not counted as cut, log entry 33.) -/
def Obligations.AnAdjustedDiscrepancyWritesTheBook : Prop :=
  (
    ∀ (r : BayRef) (x : PhaseBay) (lot : Lot) (counted : Nat) (s : State),
      (s.bay r).lot = some lot → counted ≠ x.snapshot → counted ≤ s.stackLimitOf r →
      let y := s.takeOutcome r .adjust x counted false
      (y.bay r).count = counted ∧ (y.bay r).auditHold = false ∧ (y.bay r).disputed = (s.bay r).disputed
        ∧ (∀ q, q ≠ r → (y.bay q).count = (s.bay q).count)
        ∧ y.discOrder = s.discOrder ++ [x.entry]
        ∧ ∃ cut trimmed, y.disc x.entry = .record
            { origin := x.origin, bay := r, lot := some (lot.article, lot.week), book := x.snapshot, counted := counted,
              attempts := x.attempt + 1, kind := if x.snapshot < counted then .surplus else .shortfall,
              unsteady := false, cut := cut, trimmed := trimmed, state := .adjusted })
  ∧ (
    ∀ (h : Header) (c : CarouselId) (b : BayId) (counted : Nat) (p : Presentation) (f : Phase) (x : PhaseBay) (lot : Lot)
      (st : StationId) (s : State),
      s.readyFor h.port → h.port = stationPort st → (s.carousel c).cfg.station = some st → counted ≤ 15 →
      (s.carousel c).face = some p → (s.carousel c).phase = some f → look f.bays b = some x → x.settled = none →
      f.mode = .adjust → counted ≠ x.snapshot →
      (x.attempt = 1 ∧ x.first = some counted
        ∨ 2 ≤ x.attempt ∧ (x.first = some counted ∨ x.second = some counted)) →
      (∃ d y, d ≠ b ∧ look f.bays d = some y ∧ y.settled = none) →
      (s.bay ⟨c, p.carrier, b⟩).lot = some lot → counted ≤ s.stackLimitOf ⟨c, p.carrier, b⟩ →
      let r : BayRef := ⟨c, p.carrier, b⟩
      let old := s.bay r
      let limit := s.stackLimitOf r
      let on (k : TaskKind) (z : Task) : Prop := z.kind = k ∧ z.state = .queued ∧ z.bay = r
      let kind : DiscKind := if x.snapshot < counted then .surplus else .shortfall
      let entry (cut trimmed : Nat) : DiscRecord :=
        { origin := x.origin, bay := r, lot := some (lot.article, lot.week), book := x.snapshot, counted := counted,
          attempts := x.attempt + 1, kind := kind, unsteady := false, cut := cut, trimmed := trimmed, state := .adjusted }
      let counts := put f.bays b (some { x with attempt := x.attempt + 1, settled := some .discrepancy })
      let settled (u : State) : State := u.modCarousel c fun z => { z with phase := some { f with bays := counts } }
      ∃ (y : State) (cut trimmed : Nat),
        exec (.auditCount h (byteOf c.val) (byteOf b.val) (byteOf counted)) s
            = .next (y.releaseHolds.respond ⟨h.port, RequestCode.byte .auditCount, h.tag⟩ .done
                [1, byteOf x.entry.val]).settle
          ∧ (y.bay r).count = counted ∧ (y.bay r).auditHold = false ∧ (y.bay r).disputed = old.disputed
          ∧ (∀ q, q ≠ r → (y.bay q).count = (s.bay q).count)
          ∧ y.discs = put s.discs x.entry (.record (entry cut trimmed)) ∧ y.discOrder = s.discOrder ++ [x.entry]
          ∧ (y.carousel c).phase = some { f with bays := counts }
          ∧ (old.reserved ≤ counted → counted + old.incoming ≤ limit →
              let g : Bay → Bay := fun z => { z with count := counted }
              cut = 0 ∧ trimmed = 0 ∧ y.due = { unhold := true, select := true }
                ∧ y.inner = { ((settled (s.booked r g)).setDisc x.entry (.record (entry 0 0))).modBay r
                    (fun z => { z with auditHold := false }) with discOrder := s.discOrder ++ [x.entry] }.inner
                ∧ ∀ q, y.port q = postsTo (s.bookPosts r g
                    ++ [(stockPort, .discrepancy x.entry r kind x.snapshot counted .adjusted 0 0)]) q
                    (if q = h.port then (s.port q).taken else s.port q))
          ∧ ((∀ t z, s.task t = some z → 1 ≤ z.count ∧ z.stamp.toNat < 2 ^ 31 ∧ (z.kind = .put → z.work = none)) →
              (∀ q, q ≠ r → (y.bay q).incoming = (s.bay q).incoming)
                ∧ (∀ t z, s.task t = some z → on .put z → y.task t = none ∨ y.task t = some z)
                ∧ trimmed = ((List.finRange 256).map fun t => match s.task t with
                    | some z => if z.kind = .put ∧ z.state = .queued ∧ z.bay = r ∧ y.task t = none then z.count else 0
                    | none => 0).sum
                ∧ (y.bay r).incoming = old.incoming - trimmed
                ∧ (counted + (y.bay r).incoming ≤ limit ∨ ∀ t z, y.task t = some z → ¬ on .put z)
                ∧ (∀ t z, s.task t = some z → on .put z → y.task t = none →
                    ∀ u v, s.task u = some v → on .put v → y.task u = some v → v.stamp.toNat ≤ z.stamp.toNat)
                ∧ (counted + old.incoming ≤ limit → trimmed = 0)
                ∧ (0 < trimmed → old.incoming ≤ (y.bay r).incoming + trimmed → ∃ t z, s.task t = some z ∧ on .put z
                    ∧ y.task t = none ∧ limit < counted + (y.bay r).incoming + z.count)
                ∧ (old.reserved ≤ counted → cut = 0)
                ∧ ((∀ t z, s.task t = some z → on .pick z → ∃ w, z.work = some w ∧ w.set = none) →
                    y.due.pass = decide (0 < cut)
                      ∧ (y.bay r).reserved = old.reserved - cut ∧ cut ≤ old.reserved - counted
                      ∧ (cut = old.reserved - counted ∨ ∀ t z, y.task t = some z → ¬ on .pick z)
                      ∧ cut = ((List.finRange 256).map fun t => match s.task t with
                          | some z => if z.kind = .pick ∧ z.state = .queued ∧ z.bay = r then
                              z.count - ((y.task t).map Task.count).getD 0 else 0
                          | none => 0).sum
                      ∧ (∀ t z, s.task t = some z → on .pick z →
                          y.task t = none ∨ ∃ v, y.task t = some v ∧ 0 < v.count ∧ v.count ≤ z.count ∧ v = { z with count := v.count })
                      ∧ (∀ t z, s.task t = some z → on .pick z → y.task t ≠ some z →
                          ∀ u v, s.task u = some v → on .pick v → z.stamp.toNat < v.stamp.toNat → y.task u = none)
                      ∧ ∀ t z, s.task t = some z → ¬ on .pick z → ¬ on .put z → y.task t = some z)))
  ∧ (
    ∀ (r : BayRef) (counted fuel cut : Nat) (s : State),
      ((s.bay r).reserved ≤ counted → State.cutExcess r counted fuel cut s = (s, cut))
        ∧ (counted < (s.bay r).reserved → s.queuedOnBay r .pick ≠ [] →
          ∃ t z, s.task t = some z ∧ z.kind = .pick ∧ z.state = .queued ∧ z.bay = r
            ∧ ((∀ u v, s.task u = some v → v.stamp.toNat < 2 ^ 31) →
                ∀ u v, s.task u = some v → v.kind = .pick → v.state = .queued → v.bay = r →
                  v.stamp.toNat ≤ z.stamp.toNat)
            ∧ State.cutExcess r counted (fuel + 1) cut s
                = State.cutExcess r counted fuel (cut + min ((s.bay r).reserved - counted) z.count)
                    (s.cutTask t z (min ((s.bay r).reserved - counted) z.count))))
  ∧ (
    ∀ (t : Ticket) (z : Task) (w : PickWork) (a : Nat) (s : State),
      s.task t = some z → z.state = .queued → z.kind = .pick → z.work = some w → w.set = none → a ≤ z.count →
      let y := s.cutTask t z a
      y.task t = (if a < z.count then some { z with count := z.count - a } else none)
        ∧ (∀ u, u ≠ t → y.task u = s.task u)
        ∧ (∀ q, y.bay q = if q = z.bay then ({ s.bay q with reserved := (s.bay q).reserved - a } : Bay).settleEmpty
            else s.bay q)
        ∧ (∀ l, y.lane l = (s.modLine w.lane w.line (Line.modTyres none fun n =>
            { n with allocated := n.allocated - a, openTyres := n.openTyres + a })).lane l)
        ∧ y.ports = s.ports ∧ y.due.pass = true)

/-- R137. The pending audit of a presented carrier is handed over, with free entries for its undisputed bays: the phase
holds each of them with its book count as snapshot and a reserved entry, each takes AUDIT_HOLD, the pending audit is empty,
and AUDIT goes to the station. -/
def Obligations.AHandedOverAuditBeginsAPhase : Prop :=
  ∀ (c : CarouselId) (p : Presentation) (scope : Scope) (st : StationId) (s : State),
    (s.carousel c).cfg.station = some st → (s.carousel c).face = some p →
    let k := p.carrier
    let bays := scope.bayList.filter fun b => !(s.bay ⟨c, k, b⟩).disputed
    bays ≠ [] → bays.length ≤ s.freeEntries.length →
    let t := s.handOver c k scope
    (t.carousel c).face = some { p with pendingAudit := none }
      ∧ (∃ f, (t.carousel c).phase = some f ∧ f.mode = scope.mode ∧ f.sweep = scope.sweep
          ∧ ∀ b, (b ∉ bays → look f.bays b = none)
            ∧ (b ∈ bays → ∃ o e, look scope.bays b = some o ∧ s.disc e = .free ∧ t.disc e = .reserved
                ∧ look f.bays b = some ⟨o, (s.bay ⟨c, k, b⟩).count, 0, none, none, e, none⟩))
      ∧ (∀ q, t.bay q = if q.carousel = c ∧ q.carrier = k ∧ q.bay ∈ bays then { s.bay q with auditHold := true }
          else s.bay q)
      ∧ ∀ q, t.port q = postsTo
          [(stationPort st, .audit c k (Vector.ofFn fun b => decide (b ∈ bays)))] q (s.port q)

/-- R146. DISC_ACK removes an ADJUSTED record: it leaves the creation order and its entry is free. An entry without
a record is NO_SUCH, an OPEN record WRONG_STATE. R147. RESOLVE of an OPEN record with KEEP_BOOK (an assigned
bay) or CLEAR (an EMPTY bay) leaves the book, with ACCEPT_COUNT (an assigned bay) the count becomes the book's,
with ASSIGN (an EMPTY bay) lot and count are written, each count within the stack limit; each decision lifts the
dispute, removes the record, and makes one pass due. Decisions for the other kind of bay, and records not OPEN,
are refused. The lot fields are checked for ASSIGN alone and ignored for the other decisions (11.2); ASSIGN with one
outside its domain, and a decision above 3, are BAD_FORM. -/
def Obligations.RecordsAreAcknowledgedAndResolved : Prop :=
  (
    ∀ (h : Header) (id : EntryId) (s : State), s.readyFor h.port → h.port = stockPort →
      let i := Instr.discAck h (byteOf id.val)
      (s.disc id = .free ∨ s.disc id = .reserved → Completes i s h .discAck .noSuch [] [] s)
        ∧ ∀ x, s.disc id = .record x →
          (x.state = .opened → Completes i s h .discAck .wrongState [] [] s)
            ∧ (x.state = .adjusted →
              CompletesThen i s h .discAck .done [] [] { select := true }
                { s.setDisc id .free with discOrder := s.discOrder.filter fun j => j ≠ id }))
  ∧ (
    ∀ (h : Header) (id : EntryId) (d : Nat) (article : BitVec 24) (week mass width : BitVec 16) (s : State),
      s.readyFor h.port → h.port = stockPort → d ≤ 3 →
      (d = 2 → 1 ≤ article.toNat ∧ article.toNat ≤ 999999 ∧ 1 ≤ week.toNat ∧ week.toNat ≤ 4095 ∧ 1 ≤ mass.toNat
        ∧ mass.toNat ≤ 1000 ∧ 100 ≤ width.toNat ∧ width.toNat ≤ 500) →
      let i := Instr.resolve h (byteOf id.val) (byteOf d) article week mass width
      (s.disc id = .free ∨ s.disc id = .reserved → Completes i s h .resolve .noSuch [] [] s)
        ∧ ∀ x, s.disc id = .record x →
          let b := s.bay x.bay
          let f : Bay → Bay := fun y =>
            { y with lot := some ⟨article.toNat, week.toNat, mass.toNat, width.toNat⟩, count := x.counted, reserved := 0,
                     incoming := 0 }
          let ended (u : State) : State :=
            { (u.modBay x.bay fun y => { y with disputed := false }).setDisc id .free with
              discOrder := s.discOrder.filter fun j => j ≠ id }
          let answered (y : State) : Prop :=
            exec i s = .next (y.releaseHolds.respond ⟨h.port, RequestCode.byte .resolve, h.tag⟩ .done []).settle
          (x.state = .adjusted → Completes i s h .resolve .wrongState [] [] s)
            ∧ (x.state = .opened → (d ≤ 1 ∧ b.lot = none ∨ 2 ≤ d ∧ b.lot ≠ none) →
                Completes i s h .resolve .wrongState [] [] s)
            ∧ (x.state = .opened → (d = 0 ∧ b.lot ≠ none ∨ d = 3 ∧ b.lot = none) →
                ∃ y, answered y ∧ y.inner = (ended s).inner ∧ y.due = { unhold := true, select := true, pass := true }
                  ∧ ∀ q, y.port q = if q = h.port then (s.port q).taken else s.port q)
            ∧ (x.state = .opened → d = 1 → b.lot ≠ none → s.stackLimitOf x.bay < x.counted →
                Completes i s h .resolve .badRange [] [] s)
            ∧ (x.state = .opened → d = 1 → b.lot ≠ none → x.counted ≤ s.stackLimitOf x.bay →
                ∃ y, answered y ∧ (y.bay x.bay).count = x.counted ∧ (y.bay x.bay).disputed = false ∧ y.disc id = .free
                  ∧ y.discOrder = s.discOrder.filter (fun j => j ≠ id) ∧ y.due.pass = true)
            ∧ (x.state = .opened → d = 2 → b.lot = none →
                stackLimit (s.carousel x.bay.carousel).cfg.bayHeight width.toNat < x.counted →
                Completes i s h .resolve .badRange [] [] s)
            ∧ (x.state = .opened → d = 2 → b.lot = none →
                x.counted ≤ stackLimit (s.carousel x.bay.carousel).cfg.bayHeight width.toNat →
                ∃ y, answered y ∧ y.inner = (ended (s.booked x.bay f)).inner
                  ∧ y.due = { unhold := true, select := true, pass := true }
                  ∧ ∀ q, y.port q
                      = postsTo (s.bookPosts x.bay f) q (if q = h.port then (s.port q).taken else s.port q)))
  ∧ (
    ∀ (h : Header) (id : EntryId) (d : Nat) (article : BitVec 24) (week mass width : BitVec 16) (s : State),
      s.readyFor h.port → h.port = stockPort → d ≤ 255 →
      (3 < d ∨ d = 2 ∧ (article.toNat < 1 ∨ 999999 < article.toNat ∨ week.toNat < 1 ∨ 4095 < week.toNat ∨ mass.toNat < 1
        ∨ 1000 < mass.toNat ∨ width.toNat < 100 ∨ 500 < width.toNat)) →
      Completes (.resolve h (byteOf id.val) (byteOf d) article week mass width) s h .resolve .badForm [] [] s)

/-! ## Link ports and frames (chapters 9 and 11) -/

/-- R150, R151, R152. A request's frame on the line, character by character into a hunting receiver, does exactly what
the request command does: mark, length, code, tag, payload and CRC as Table 11-1 lays them out (11.1). (A request command is
its good frame arriving, log entry 5.) -/
def Obligations.WireFormsTheFrame : Prop :=
  ∀ (i : Instr) (h : Header) (code : RequestCode) (payload : List Byte) (s : State),
    i.wellFormed = true → i.request? = some (h, code, payload) → (s.port h.port).receiver = .hunting →
      execAll (characters h.port (Frame.wire ⟨code.byte, h.tag, payload⟩)) s = exec i s

/-- R151. CHARACTER_RECEIVED: a hunting receiver starts a frame on a clean A5h and ignores everything else; an
assembling one ends on a framing error or a length outside 2 to 100, keeps any other character with its parity
noted, and completes the frame with the second CRC character. R152. A frame that does not end good is discarded,
sets the one flag its ending names, and leaves no other trace; a gap does so only in assembly. (A gap in a hunting
receiver is no event and changes nothing, log entry 17. A length character outside 2 to 100 with a framing error ends the
frame as FRAMING, the model's choice, log entry 36.) -/
def Obligations.CharactersAreAssembledIntoFrames : Prop :=
  (
    ∀ (p : PortId) (v : Byte) (parity framing : Bool) (s : State), s.part ≠ .halted →
      let x := s.port p
      let i := Instr.characterReceived p v parity framing
      let becomes (y : Port) : Prop :=
        ∃ t, exec i s = .next t ∧ t.inner = s.inner ∧ t.port p = y ∧ s.portsBut t [p]
      (x.receiver = .hunting →
          becomes (if v = 0xA5 ∧ parity = false ∧ framing = false then { x with receiver := .assembling [] false } else x))
        ∧ ∀ got noted, x.receiver = .assembling got noted →
          (framing = true →
              becomes { x with receiver := .hunting, flags := { x.flags with framing := true } })
            ∧ (framing = false → got = [] → (v.toNat < 2 ∨ 100 < v.toNat) →
              becomes { x with receiver := .hunting, flags := { x.flags with check := true } })
            ∧ (framing = false → got = [] → 2 ≤ v.toNat → v.toNat ≤ 100 →
              becomes { x with receiver := .assembling [v] (noted || parity) })
            ∧ ∀ len rest, got = len :: rest → framing = false → 2 ≤ len.toNat → len.toNat ≤ 100 →
              (rest.length + 1 < len.toNat + 2 →
                  becomes { x with receiver := .assembling (got ++ [v]) (noted || parity) })
                ∧ (rest.length + 1 = len.toNat + 2 →
                  exec i s = exec (.frameReceived p (completeFrame (got ++ [v]) (noted || parity))) s))
  ∧ (
    ∀ (p : PortId) (s : State), s.part ≠ .halted →
      let x := s.port p
      let becomes (i : Instr) (y : Port) : Prop :=
        ∃ t, exec i s = .next t ∧ t.inner = s.inner ∧ t.port p = y ∧ s.portsBut t [p]
      becomes (.frameReceived p .framingError) { x with receiver := .hunting, flags := { x.flags with framing := true } }
        ∧ becomes (.frameReceived p .badLength) { x with receiver := .hunting, flags := { x.flags with check := true } }
        ∧ becomes (.frameReceived p .parityError) { x with receiver := .hunting, flags := { x.flags with parity := true } }
        ∧ becomes (.frameReceived p .checkError) { x with receiver := .hunting, flags := { x.flags with check := true } }
        ∧ (x.receiver ≠ .hunting →
            becomes (.frameGapExpiry p) { x with receiver := .hunting, flags := { x.flags with gap := true } })
        ∧ (x.receiver = .hunting → becomes (.frameGapExpiry p) x))

/-- R153. A good frame that finds the buffer full is discarded with OVERRUN and the frame held stays; one that finds
the buffer empty while a response waits in the slot enters the buffer and waits there. R153, R154. A frame the
dispatcher takes and refuses changes nothing but its port: DENIED_ROLE for a code not allowed on the port, then
BUSY while STARTING, then BAD_FORM for a length or a domain, then DENIED_ROLE for a carousel of another station. -/
def Obligations.GoodFramesWaitOrAreChecked : Prop :=
  (
    ∀ (p : PortId) (f : Frame) (s : State), s.part ≠ .halted → f.payload.length ≤ 98 →
      let x := s.port p
      let becomes (y : Port) : Prop :=
        ∃ t, exec (.frameReceived p (.good f)) s = .next t ∧ t.inner = s.inner ∧ t.port p = y ∧ s.portsBut t [p]
      (x.buffer ≠ none → becomes { x with receiver := .hunting, flags := { x.flags with overrun := true } })
        ∧ (x.buffer = none → (x.slot ≠ none ∨ x.inProcess = true) →
            becomes { x with receiver := .hunting, buffer := some f }))
  ∧ (
    ∀ (p : PortId) (f : Frame) (s : State), s.part ≠ .halted → f.payload.length ≤ 98 →
      let x := s.port p
      x.buffer = none → x.slot = none → x.inProcess = false →
      let refused (o : ReplyCode) : Prop :=
        ∃ t, exec (.frameReceived p (.good f)) s = .next t ∧ t.inner = s.inner ∧ s.portsBut t [p]
          ∧ t.port p = ({ x with receiver := .hunting, inProcess := true } : Port).place (responseCode f.code) f.tag o []
      match RequestCode.ofByte f.code with
      | none => refused .deniedRole
      | some code =>
        if code.allowedOn p = false then refused .deniedRole
        else if s.part ≠ .running then refused .busy
        else
          match parseRequest code f.payload with
          | none => refused .badForm
          | some r =>
            ∀ c, requestCarousel? r = some c → (s.carousel c).cfg.station.map stationPort ≠ some p → refused .deniedRole)

/-- R155. A response carries code plus 80h, or FFh outside 01h to 3Fh, and the tag; its status byte reports the six
flags with their sum, and every flag is cleared in the same step. It waits in the slot while the port sends or is
held, and is sent at once otherwise. (That a free transmitter starts within the operation is the model's reading, log
entry 7.) -/
def Obligations.AResponseReportsAndClearsTheFlags : Prop :=
  ∀ (code tag : Byte) (o : ReplyCode) (body : List Byte) (x : Port),
    let r : Response := { code := responseCode code, tag := tag, outcome := o, flags := x.flags, body := body }
    let y := x.place (responseCode code) tag o body
    y.flags = {} ∧ y.inProcess = false ∧ y.queue = x.queue ∧ y.buffer = x.buffer
      ∧ (if x.sending = none ∧ x.held = false then y.sending = some (.response r) ∧ y.slot = none
         else y.slot = some r ∧ y.sending = x.sending)
      ∧ r.frame.payload = o.byte :: r.flags.byte :: body
      ∧ (r.flags.byte.getLsbD 0 = x.flags.parity ∧ r.flags.byte.getLsbD 1 = x.flags.framing
          ∧ r.flags.byte.getLsbD 2 = x.flags.check ∧ r.flags.byte.getLsbD 3 = x.flags.gap
          ∧ r.flags.byte.getLsbD 4 = x.flags.overrun ∧ r.flags.byte.getLsbD 5 = x.flags.noticeLost
          ∧ r.flags.byte.getLsbD 6 = false
          ∧ (r.flags.byte.getLsbD 7 = true ↔ x.flags ≠ {}))

/-- R157. A notice posted to a queue that holds 8 is dropped with NOTICE_LOST and the queue stays; otherwise it joins
the end of the queue, and a free transmitter that may send starts the response or else the oldest notice at once.
R156. What a free transmitter starts: nothing while the hold input is asserted, else the response in the slot, else
the oldest notice. (That a free transmitter starts within the operation is the model's reading, log entry 7.) -/
def Obligations.NoticesQueueBehindResponses : Prop :=
  (
    ∀ (n : Notice) (x : Port),
      (8 ≤ x.queue.length → x.post n = { x with flags := { x.flags with noticeLost := true } })
        ∧ (x.queue.length < 8 → x.sending ≠ none ∨ x.held = true → x.post n = { x with queue := x.queue ++ [n] })
        ∧ (x.queue.length < 8 → x.sending = none → x.held = false → x.slot = none → ∀ m rest, x.queue ++ [n] = m :: rest →
            x.post n = { x with sending := some (.notice m), queue := rest }))
  ∧ (
    ∀ x : Port, x.sending = none →
      (x.held = true → x.startNext = x)
        ∧ (∀ r, x.held = false → x.slot = some r → x.startNext = { x with sending := some (.response r), slot := none })
        ∧ (∀ n rest, x.held = false → x.slot = none → x.queue = n :: rest →
            x.startNext = { x with sending := some (.notice n), queue := rest })
        ∧ (x.held = false → x.slot = none → x.queue = [] → x.startNext = x))

/-- R156, R153. FRAME_SENT: a free transmitter starts the response in the slot, else the oldest notice, unless the
port is held; a frame waiting in the buffer is taken once the slot is empty. With nothing being sent there is no
such event (log entry 17). (The RESTART response on L0 has its own statement.) R156. HOLD_INPUT: asserted, the
port starts no new frame and keeps what it is sending; removed, a free transmitter sends on. (With an empty
receive buffer, so that no waiting frame is taken.) A halted part only reads the level (log entry 16). -/
def Obligations.FrameSentAndHoldInputDriveTheTransmitter : Prop :=
  (
    ∀ (p : PortId) (s : State), s.part ≠ .halted →
      let x := s.port p
      let next : Port := ({ x with sending := none } : Port).startNext
      let becomes (y : Port) : Prop :=
        ∃ t, exec (.frameSent p) s = .next t ∧ t.inner = s.inner ∧ t.port p = y ∧ s.portsBut t [p]
      (x.sending = none → becomes x)
        ∧ (x.sending ≠ none → (p ≠ stockPort ∨ s.sendingRestart = false) →
          (x.buffer = none ∨ next.slot ≠ none ∨ x.inProcess = true → becomes next)
            ∧ ∀ f, x.buffer = some f → next.slot = none → x.inProcess = false →
              exec (.frameSent p) s
                = .next ((s.begin.modPort p fun _ => { next with buffer := none, inProcess := true }).serve p f).settle))
  ∧ (
    ∀ (p : PortId) (s : State), (s.port p).buffer = none →
      let becomes (on : Bool) (y : Port) : Prop :=
        ∃ t, exec (.holdInput p on) s = .next t ∧ t.inner = s.inner ∧ t.port p = y ∧ s.portsBut t [p]
      (s.part ≠ .halted → becomes true { s.port p with held := true }
          ∧ becomes false ({ s.port p with held := false } : Port).startNext)
        ∧ (s.part = .halted → ∀ on, becomes on { s.port p with held := on }))

/-! ## Configuration and start-up (chapter 10) -/

/-- R159, R160, R161. CONFIGURE of an item whose value is in range, whose carousel is OFFLINE or WITHDRAWN, and which meets
the other checks of Table 10-3, writes that one item. The bay height, payload limit, put limit, timing profile and station
of a carousel, and the global items: nothing else changes; a new P makes the arbiter due. -/
def Obligations.ConfigureWritesOneItem : Prop :=
  ∀ (h : Header) (item : ConfigItem) (v : Nat) (s : State), s.readyFor h.port → h.port = stockPort →
    itemInRange v item = true → s.itemIdle item = true → s.itemFits v item = true → s.itemBusy item = false →
    let i := Instr.configure h (byteOf (itemCode item).1) (byteOf (itemCode item).2) (BitVec.ofNat 32 v)
    let cfg (c : CarouselId) (f : CarouselConfig → CarouselConfig) : Prop :=
      Completes i s h .configure .done [] [] (s.modCarousel c fun x => { x with cfg := f x.cfg })
    let profile (p : ProfileId) (f : TimingProfile → TimingProfile) : Prop :=
      Completes i s h .configure .done [] []
        { s with globals := { s.globals with profiles := put s.globals.profiles p (f (look s.globals.profiles p)) } }
    match item with
    | .bayHeight c => cfg c fun g => { g with bayHeight := v }
    | .payloadLimit c => cfg c fun g => { g with payloadLimit := v }
    | .putLimit c => cfg c fun g => { g with putLimit := v }
    | .timingProfile c => ∀ p : ProfileId, p.val = v → cfg c fun g => { g with profile := p }
    | .station c =>
      (∀ st : StationId, st.val = v → cfg c fun g => { g with station := some st })
        ∧ (v = 255 → cfg c fun g => { g with station := none })
    | .baseTime p => profile p fun x => { x with baseTime := v }
    | .stepTime p => profile p fun x => { x with stepTime := v }
    | .permits => CompletesThen i s h .configure .done [] [] { arbiter := true }
        { s with globals := { s.globals with permits := v } }
    | .laneCapacity => Completes i s h .configure .done [] [] { s with globals := { s.globals with laneCapacity := v } }
    | .orderOpenTime =>
      Completes i s h .configure .done [] [] { s with globals := { s.globals with orderOpenTime := v } }
    | .shortPickMode => Completes i s h .configure .done [] []
        { s with globals := { s.globals with shortPickMode := if v = 1 then .review else .adjust } }
    | .carrierCount c | .hardLimit c =>
      (match item with | .carrierCount _ => (s.carousel c).bare = true | _ => True) →
      let u : Carousel → Carousel := match item with
        | .carrierCount _ => fun x =>
          { x with cfg := { x.cfg with n := v },
                   balance := { entries := Vector.replicate 20 0, peak := 0, peakOffset := 0, overweight := false } }
        | _ => fun x => { x with cfg := { x.cfg with hardLimit := v },
                                 balance := { x.balance with overweight := decide (v < x.balance.peak) } }
      let y := u (s.carousel c)
      let flips := y.balance.overweight != (s.carousel c).balance.overweight
      CompletesThen i s h .configure .done []
        (if flips then
          [(stockPort, .carousel c y.motion.state y.motion.fault y.motion.hold y.balance.overweight y.balance.peak)]
         else [])
        { select := flips, unhold := flips } (s.modCarousel c u)

/-- R159, Table 10-3. CONFIGURE is refused, in this order: BAD_RANGE for the value, WRONG_STATE in service or with a lane not
FREE, WRONG_STATE for a carrier count over stock or a dispute, BAD_RANGE against heights and limits held, BUSY while a
permit is held that the item governs. A refused CONFIGURE changes nothing. -/
def Obligations.ConfigureIsCheckedInOrder : Prop :=
  ∀ (h : Header) (item : ConfigItem) (v : BitVec 32) (s : State), s.readyFor h.port → h.port = stockPort →
    let i := Instr.configure h (byteOf (itemCode item).1) (byteOf (itemCode item).2) v
    (itemInRange v.toNat item = false → Completes i s h .configure .badRange [] [] s)
      ∧ (itemInRange v.toNat item = true →
        (∀ c, itemCarousel? item = some c → (s.motion c).state ∉ [.offline, .withdrawn] →
            Completes i s h .configure .wrongState [] [] s)
          ∧ (item = .laneCapacity → (∃ l, (s.lane l).state ≠ .free) → Completes i s h .configure .wrongState [] [] s)
          ∧ (∀ c k b, item = .carrierCount c → (s.motion c).state ∈ [.offline, .withdrawn] →
              ((s.bay ⟨c, k, b⟩).lot ≠ none ∨ (s.bay ⟨c, k, b⟩).disputed = true) →
              Completes i s h .configure .wrongState [] [] s)
          ∧ (∀ c k b lot, item = .bayHeight c → (s.motion c).state ∈ [.offline, .withdrawn] →
              (s.bay ⟨c, k, b⟩).lot = some lot →
              stackLimit v.toNat lot.width < (s.bay ⟨c, k, b⟩).count + (s.bay ⟨c, k, b⟩).incoming →
              Completes i s h .configure .badRange [] [] s)
          ∧ (∀ c, item = .putLimit c → (s.motion c).state ∈ [.offline, .withdrawn] →
              (s.carousel c).cfg.hardLimit < v.toNat → Completes i s h .configure .badRange [] [] s)
          ∧ (∀ c, item = .hardLimit c → (s.motion c).state ∈ [.offline, .withdrawn] →
              v.toNat < (s.carousel c).cfg.putLimit → Completes i s h .configure .badRange [] [] s)
          ∧ (∀ c, (s.motion c).state ∈ [.moving, .stopping, .suspended] →
              (item = .permits ∨ item = .baseTime (s.carousel c).cfg.profile
                ∨ item = .stepTime (s.carousel c).cfg.profile) →
              Completes i s h .configure .busy [] [] s))

/-- R163. RESTART is answered DONE and changes nothing else; the restart begins when that response has been sent in
full on L0 (WARM_RESTART and the FRAME_SENT of that response are the same event, log entry 12). R163, R164.
RESTART_INPUT begins a restart at once and the part stays STARTING; its release lets the part leave STARTING,
with a CAROUSEL notice first for each carousel whose OVERWEIGHT flag changed and then for each that is UNSYNCED. -/
def Obligations.RestartsBeginAndEnd : Prop :=
  (
    ∀ (h : Header) (s : State), s.readyFor h.port → h.port = stockPort →
      Completes (.restart h) s h .restart .done [] [] s
        ∧ (s.sendingRestart = true →
            exec .warmRestart s = .next (s.restart .restartRequest)
              ∧ exec (.frameSent stockPort) s = exec .warmRestart s)
        ∧ (s.sendingRestart = false → ∃ t, exec .warmRestart s = .next t ∧ t.inner = s.inner ∧ t.ports = s.ports)
        ∧ ∀ cause,
            (s.restartAsserted = true → s.restart cause = s.warmRestart cause)
              ∧ (s.restartAsserted = false →
                  (s.restart cause).inner = ({ s.warmRestart cause with part := .running } : State).inner))
  ∧ (
    ∀ s : State,
      (s.part ≠ .halted →
          exec .restartInput s = .next { s.warmRestart .restartInput with restartAsserted := true }
            ∧ (s.part = .running →
                (s.warmRestart .restartInput).part = .starting (s.carousels.map fun x => x.balance.overweight)))
        ∧ (∀ before, s.part = .starting before →
          let notices := ((carouselIds.filter fun c => (s.carousel c).balance.overweight ≠ look before c)
              ++ carouselIds.filter fun c => (s.motion c).state = .unsynced).map fun c =>
            (stockPort, Notice.carousel c (s.motion c).state (s.motion c).fault (s.motion c).hold
              (s.carousel c).balance.overweight (s.carousel c).balance.peak)
          Happens .restartInputRelease s notices { s with part := .running, restartAsserted := false })
        ∧ (s.part = .running → Happens .restartInputRelease s [] { s with restartAsserted := false }))

/-- R164, R21, R75, R118, R149, R158. What a warm restart leaves: ports reset, no task, no call, no presentation, no
phase, no sweep, every lane FREE, stamps from 0; the book keeps lots, counts and disputes and loses reserved,
incoming and holds; enrolled carousels are UNSYNCED with HOLD clear; records and configuration stay. R36, R21.
After a warm restart every planned payload is the sum of its bays, and for a legal carousel every profile entry
is what R24 defines, the peak what R26 defines, and OVERWEIGHT set exactly where the peak is above the hard
limit. -/
def Obligations.AWarmRestartKeepsTheBook : Prop :=
  (
    ∀ (cause : StartCause) (s : State),
      let t := s.warmRestart cause
      t.lastStart = cause ∧ t.stamp = 0 ∧ t.nextTicket = 0 ∧ t.starved = false ∧ (∀ u, t.task u = none)
        ∧ (∀ l, t.lane l = { state := .free, order := none, timer := none, strays := 0, releasedFrom := none })
        ∧ (∀ p, t.port p = { receiver := .hunting, buffer := none, inProcess := false, slot := none, queue := [],
                             sending := none, flags := {}, held := (s.port p).held })
        ∧ (∀ i, t.disc i = if s.disc i = .reserved then .free else s.disc i) ∧ t.discOrder = s.discOrder
        ∧ t.globals = s.globals ∧ t.straps = s.straps ∧ t.bitRates = s.bitRates ∧ t.pending = s.pending
        ∧ (∀ c,
            let x := s.carousel c
            let y := t.carousel c
            y.cfg = x.cfg ∧ y.calls = [] ∧ y.face = none ∧ y.phase = none ∧ y.sweep = none
              ∧ y.motion.guardLatch = x.guardLine ∧ y.motion.moveTimer = none ∧ y.motion.stopTimer = none
              ∧ (if x.motion.state = .offline ∨ x.motion.state = .withdrawn then
                  y.motion.state = x.motion.state ∧ y.motion.hold = x.motion.hold
                 else
                  y.motion.state = .unsynced ∧ y.motion.hold = false ∧ y.motion.held = none ∧ y.motion.chosen = none
                    ∧ y.motion.lastMove = none ∧ y.motion.fault = none))
        ∧ ∀ r, t.bay r =
            { lot := if (s.bay r).count = 0 then none else (s.bay r).lot, count := (s.bay r).count, reserved := 0,
              incoming := 0, auditHold := false, disputed := (s.bay r).disputed })
  ∧ (
    ∀ (cause : StartCause) (c : CarouselId) (s : State), (s.carousel c).cfg.legal →
      let y := (s.warmRestart cause).carousel c
      y.payloadsRight ∧ y.profileRight ∧ y.balance.peakRight y.cfg.n
        ∧ y.balance.overweight = decide (y.cfg.hardLimit < y.balance.peak))

/-- R162. In every state POWER_ON ends in a next state with every block at its power-on values and every configuration
item at its default of Tables 10-1 and 10-2, with the input lines as they stand, each port at the bit rate that the straps
of its group of three select (Table 10-5), and posts no notice. R162. In every
state POWER_ON_RESET ends in a next state that is halted and otherwise as it was, and a halted part takes nothing until
POWER_ON: every request, every frame and every expiry leaves it as it is (log entry 16), and so does every tick (log
entry 4). (POWER_ON runs the part whatever the restart input reads, log entry 14.) -/
def Obligations.PowerOnAndPowerOnReset : Prop :=
  (
    ∀ s : State, ∃ t, exec .powerOn s = .next t
      ∧ t.part = .running ∧ t.lastStart = .powerOn ∧ t.stamp = 0 ∧ t.nextTicket = 0 ∧ t.starved = false
      ∧ t.globals = { profiles := Vector.replicate 4 ⟨20, 15⟩, permits := 2, laneCapacity := 24, orderOpenTime := 1200,
                      shortPickMode := .review }
      ∧ t.discOrder = [] ∧ (∀ i, t.disc i = .free) ∧ (∀ u, t.task u = none)
      ∧ (∀ l, t.lane l = { state := .free, order := none, timer := none, strays := 0, releasedFrom := none })
      ∧ (∀ p, t.port p = { receiver := .hunting, buffer := none, inProcess := false, slot := none, queue := [],
                           sending := none, flags := {}, held := (s.port p).held })
      ∧ (∀ r, t.bay r = { lot := none, count := 0, reserved := 0, incoming := 0, auditHold := false, disputed := false })
      ∧ (∀ c k, (t.carrier c k).payload = 0)
      ∧ (∀ c,
          t.motion c = { state := .offline, held := none, chosen := none, lastMove := none, moveTimer := none,
                         stopTimer := none, hold := false, fault := none, guardLatch := (s.carousel c).guardLine }
            ∧ (t.carousel c).guardLine = (s.carousel c).guardLine
            ∧ (t.carousel c).cfg = { n := 20, bayHeight := 900, payloadLimit := 4000, putLimit := 6000, hardLimit := 9000,
                                     profile := 0, station := some (if c.val < 2 then 0 else if c.val < 4 then 1 else 2) }
            ∧ (t.carousel c).balance = { entries := Vector.replicate 20 0, peak := 0, peakOffset := 0, overweight := false }
            ∧ (t.carousel c).calls = [] ∧ (t.carousel c).face = none ∧ (t.carousel c).phase = none
            ∧ (t.carousel c).sweep = none)
      ∧ (∀ g, look t.bitRates g = (look s.straps g).rate) ∧ (∀ p, t.bitRate p = (look s.straps (portGroup p)).rate)
      ∧ t.straps = s.straps ∧ t.restartAsserted = s.restartAsserted
      ∧ t.pending = s.pending)
  ∧ (
    ∀ s : State, exec .powerOnReset s = .next { s with part := .halted }
      ∧ (s.part = .halted →
          (∀ i h code payload, i.request? = some (h, code, payload) → exec i s = .next s)
            ∧ (∀ p e, exec (.frameReceived p e) s = .next s) ∧ (∀ p, exec (.frameGapExpiry p) s = .next s)
            ∧ (∀ p v a b, exec (.characterReceived p v a b) s = .next s) ∧ (∀ p, exec (.frameSent p) s = .next s)
            ∧ (∀ l, exec (.orderOpenTimerExpiry l) s = .next s) ∧ (∀ c, exec (.moveTimerExpiry c) s = .next s)
            ∧ (∀ c, exec (.stopTimerExpiry c) s = .next s) ∧ (s.pending = [] → step s = .next s)))

/-! ## Withdrawal (6.8) -/

/-- R115, R22. WITHDRAW outside OFFLINE and WITHDRAWN: no task and no call is left on the carousel, no presentation, phase or
sweep; its motion record holds nothing but HOLD and the latch; counts and DISPUTED marks of the whole book stay; one pass is
due. In OFFLINE and WITHDRAWN it is refused. -/
def Obligations.WithdrawLetsGoOfTheCarousel : Prop :=
  ∀ (h : Header) (c : CarouselId) (s : State), s.readyFor h.port → h.port = stockPort →
    let i := Instr.withdraw h (byteOf c.val)
    ((s.motion c).state ∈ [.offline, .withdrawn] → Completes i s h .withdraw .wrongState [] [] s)
      ∧ ((s.motion c).state ∉ [.offline, .withdrawn] →
        ((s.carousel c).face = none →
          (s.carousel c).phase = none ∧ ∀ t x, s.task t = some x → x.bay.carousel = c → x.state = .queued) →
        ∃ y : State, exec i s = .next y.settle
          ∧ y.motion c = { state := .withdrawn, held := none, chosen := none, lastMove := none, moveTimer := none,
                           stopTimer := none, hold := (s.motion c).hold, fault := none,
                           guardLatch := (s.motion c).guardLatch }
          ∧ (y.carousel c).calls = [] ∧ (y.carousel c).sweep = none ∧ (y.carousel c).face = none
          ∧ (y.carousel c).phase = none ∧ (y.carousel c).cfg = (s.carousel c).cfg
          ∧ (∀ t x, y.task t = some x → x.bay.carousel ≠ c)
          ∧ (∀ r, (y.bay r).count = (s.bay r).count ∧ (y.bay r).disputed = (s.bay r).disputed)
          ∧ y.due.pass = true ∧ y.due.arbiter = decide ((s.motion c).state ∈ [.moving, .stopping, .suspended])
          ∧ ∃ flags, (y.port h.port).answers ⟨responseCode (RequestCode.byte .withdraw), h.tag, .done, flags, []⟩)

/-! ## The whole part -/

/-- THE MODEL'S STEP (log entries 1 and 4): with a command waiting, a step is that command on the state with the queue's
rest; with none waiting 0.1 s passes. -/
def Obligations.StepRunsTheFrontCommand : Prop :=
  ∀ (i : Instr) (rest : List Instr) (s : State),
    step { s with pending := i :: rest } = exec i { s with pending := rest }
      ∧ step { s with pending := [] } = .next (State.tick { s with pending := [] })

/-- R154, R155. Every request has its one response and every event its effect or none, so every command is answered
with a next state; commands that name no event end in a next state too (log entries 16 and 17). It keeps the queue of
waiting commands, which is the model's own (log entry 1). -/
def Obligations.EveryCommandIsTaken : Prop :=
  ∀ (i : Instr) (s : State), ∃ t, exec i s = .next t ∧ t.pending = s.pending

/-- What follows an operation moves no tyre of the book: lots, counts, promised tyres, disputes and payloads, the
half-profiles and OVERWEIGHT stay, and so do the configuration, the held offsets, the HOLD flags and the latches. -/
def Obligations.WhatFollowsMovesNoTyre : Prop :=
  ∀ s : State,
    let t := s.settle
    (∀ r, (t.bay r).lot = (s.bay r).lot ∧ (t.bay r).count = (s.bay r).count ∧ (t.bay r).incoming = (s.bay r).incoming
        ∧ (t.bay r).disputed = (s.bay r).disputed)
      ∧ (∀ c k, (t.carrier c k).payload = (s.carrier c k).payload)
      ∧ (∀ c, (t.carousel c).balance = (s.carousel c).balance ∧ (t.carousel c).cfg = (s.carousel c).cfg
          ∧ (t.motion c).held = (s.motion c).held ∧ (t.motion c).hold = (s.motion c).hold
          ∧ (t.motion c).guardLatch = (s.motion c).guardLatch)
      ∧ t.globals = s.globals ∧ t.part = s.part ∧ t.pending = s.pending

/-- R100. The carousels in MOVING, STOPPING or SUSPENDED never exceed the permit count: every step keeps it so. -/
def Obligations.EveryStepKeepsThePermitLimit : Prop :=
  ∀ s t : State, s.permitsBounded → step s = .next t → t.permitsBounded

/-- R76. At most one call per carrier in each queue, and none for the carrier presented: every step keeps it so.
R81. No call is passed over more than 8 times: every step keeps it so. -/
def Obligations.EveryStepKeepsTheCallQueues : Prop :=
  (
    ∀ s t : State, s.oneCallPerCarrier → step s = .next t → t.oneCallPerCarrier)
  ∧ (
    ∀ s t : State, s.passesBounded → step s = .next t → t.passesBounded)

/-- R157. No notice queue holds more than 8 notices: every step keeps it so. -/
def Obligations.EveryStepKeepsTheQueuesAtEight : Prop :=
  ∀ s t : State, s.queuesBounded → step s = .next t → t.queuesBounded

/-- Tables 10-1 and 10-2. Every configuration item stays within its range, and each put limit at most its hard limit: every
step keeps it so. -/
def Obligations.EveryStepKeepsTheConfigurationLegal : Prop :=
  ∀ s t : State, s.configLegal → step s = .next t → t.configLegal

/-- Table 6-1. Each motion record holds exactly what its state says is present, and presentations and phases run only in
PRESENTING: every step keeps it so. -/
def Obligations.EveryStepKeepsTheMotionRecordsRight : Prop :=
  ∀ s t : State, s.motionRight → step s = .next t → t.motionRight

/-- R86. Every PRESENTED task and every tombstone lies on the carrier at the face of a PRESENTING carousel: every step keeps
it so. -/
def Obligations.EveryStepKeepsPresentedTasksAtTheFace : Prop :=
  ∀ s t : State, s.presentedAtFace → step s = .next t → t.presentedAtFace

/-- R30. OVERWEIGHT stands exactly while the peak is above the hard limit: every step keeps it so. -/
def Obligations.EveryStepKeepsOverweightTrue : Prop :=
  ∀ s t : State, s.overweightRight → step s = .next t → t.overweightRight

/-- The state after reset meets every law the other statements show each step to keep. -/
def Obligations.ResetMeetsTheLaws : Prop :=
  State.reset.permitsBounded ∧ State.reset.oneCallPerCarrier ∧ State.reset.passesBounded ∧ State.reset.queuesBounded
    ∧ State.reset.configLegal ∧ State.reset.motionRight ∧ State.reset.presentedAtFace ∧ State.reset.overweightRight
end

