-- ==== Sys2Proof/Laws/Tables.lean ====
section
/-! SUPPORT. Laws/Tables.lean: reading a fixed table after writing it. -/

namespace Sys2Proof

variable {α β : Type} {n : Nat}

/-- A table read at the index just written gives the value written. -/
@[simp] theorem look_put_self (v : Vector α n) (i : Fin n) (x : α) : look (put v i x) i = x := by
  simp [look, put]

/-- A write leaves every other place alone. -/
@[simp] theorem look_put_ne (v : Vector α n) {i j : Fin n} (x : α) (h : i ≠ j) : look (put v i x) j = look v j := by
  have : i.val ≠ j.val := fun e => h (Fin.ext e)
  simp [look, put, this]

theorem look_put (v : Vector α n) (i j : Fin n) (x : α) :
    look (put v i x) j = if i = j then x else look v j := by
  by_cases h : i = j
  · subst h; simp
  · simp [h]

@[simp] theorem look_map (v : Vector α n) (f : α → β) (i : Fin n) : look (v.map f) i = f (look v i) := by
  simp [look]

@[simp] theorem look_ofFn (f : Fin n → α) (i : Fin n) : look (Vector.ofFn f) i = f i := by
  simp [look]

@[simp] theorem look_replicate (x : α) (i : Fin n) : look (Vector.replicate n x) i = x := by
  simp [look]

/-- Tables that read alike everywhere are equal. -/
theorem look_ext {v w : Vector α n} (h : ∀ i, look v i = look w i) : v = w := by
  apply Vector.ext
  intro i hi
  exact h ⟨i, hi⟩

@[simp] theorem put_look_self (v : Vector α n) (i : Fin n) : put v i (look v i) = v := by
  apply look_ext
  intro j
  rw [look_put]
  split
  · next h => rw [h]
  · rfl

@[simp] theorem put_put (v : Vector α n) (i : Fin n) (x y : α) : put (put v i x) i y = put v i y := by
  apply look_ext
  intro j
  by_cases h : i = j
  · subst h; simp
  · simp [h]

/-- Writes at different places commute. -/
theorem put_comm (v : Vector α n) {i j : Fin n} (h : i ≠ j) (x y : α) :
    put (put v i x) j y = put (put v j y) i x := by
  apply look_ext
  intro k
  simp only [look_put]
  by_cases h1 : j = k
  · subst h1; simp [h]
  · simp [h1]

end Sys2Proof
end

