-- ==== Sys2Proof/Laws/State.lean ====
section
/-! SUPPORT. Laws/State.lean: what each named update of the state leaves in each table: one lemma per table per
update. -/

namespace Sys2Proof.Machine

variable (s : State) (c d : CarouselId) (p q : PortId)

/-! ## One carousel is written -/

@[simp] theorem modCarousel_carousel_self (f : Carousel → Carousel) :
    (s.modCarousel c f).carousel c = f (s.carousel c) := by simp [State.modCarousel, State.carousel]
@[simp] theorem modCarousel_carousel_ne {c d : CarouselId} (f : Carousel → Carousel) (h : c ≠ d) :
    (s.modCarousel c f).carousel d = s.carousel d := by simp [State.modCarousel, State.carousel, h]
theorem modCarousel_carousel (f : Carousel → Carousel) :
    (s.modCarousel c f).carousel d = if c = d then f (s.carousel c) else s.carousel d := by
  by_cases h : c = d
  · subst h; simp
  · simp [h]
@[simp] theorem modCarousel_part (f : Carousel → Carousel) : (s.modCarousel c f).part = s.part := rfl
@[simp] theorem modCarousel_stamp (f : Carousel → Carousel) : (s.modCarousel c f).stamp = s.stamp := rfl
@[simp] theorem modCarousel_tasks (f : Carousel → Carousel) : (s.modCarousel c f).tasks = s.tasks := rfl
@[simp] theorem modCarousel_nextTicket (f : Carousel → Carousel) : (s.modCarousel c f).nextTicket = s.nextTicket := rfl
@[simp] theorem modCarousel_starved (f : Carousel → Carousel) : (s.modCarousel c f).starved = s.starved := rfl
@[simp] theorem modCarousel_lanes (f : Carousel → Carousel) : (s.modCarousel c f).lanes = s.lanes := rfl
@[simp] theorem modCarousel_discs (f : Carousel → Carousel) : (s.modCarousel c f).discs = s.discs := rfl
@[simp] theorem modCarousel_discOrder (f : Carousel → Carousel) : (s.modCarousel c f).discOrder = s.discOrder := rfl
@[simp] theorem modCarousel_globals (f : Carousel → Carousel) : (s.modCarousel c f).globals = s.globals := rfl
@[simp] theorem modCarousel_ports (f : Carousel → Carousel) : (s.modCarousel c f).ports = s.ports := rfl
@[simp] theorem modCarousel_due (f : Carousel → Carousel) : (s.modCarousel c f).due = s.due := rfl
@[simp] theorem modCarousel_pending (f : Carousel → Carousel) : (s.modCarousel c f).pending = s.pending := rfl
@[simp] theorem modCarousel_port (f : Carousel → Carousel) : (s.modCarousel c f).port p = s.port p := rfl
@[simp] theorem modCarousel_task (f : Carousel → Carousel) (t : Ticket) : (s.modCarousel c f).task t = s.task t := rfl
@[simp] theorem modCarousel_lane (f : Carousel → Carousel) (l : LaneId) : (s.modCarousel c f).lane l = s.lane l := rfl
@[simp] theorem modCarousel_disc (f : Carousel → Carousel) (i : EntryId) : (s.modCarousel c f).disc i = s.disc i := rfl

/-! ## One port is written -/

@[simp] theorem modPort_port_self (f : Port → Port) : (s.modPort p f).port p = f (s.port p) := by
  simp [State.modPort, State.port]
@[simp] theorem modPort_port_ne {p q : PortId} (f : Port → Port) (h : p ≠ q) : (s.modPort p f).port q = s.port q := by
  simp [State.modPort, State.port, h]
theorem modPort_port (f : Port → Port) : (s.modPort p f).port q = if p = q then f (s.port p) else s.port q := by
  by_cases h : p = q
  · subst h; simp
  · simp [h]
@[simp] theorem modPort_part (f : Port → Port) : (s.modPort p f).part = s.part := rfl
@[simp] theorem modPort_stamp (f : Port → Port) : (s.modPort p f).stamp = s.stamp := rfl
@[simp] theorem modPort_carousels (f : Port → Port) : (s.modPort p f).carousels = s.carousels := rfl
@[simp] theorem modPort_tasks (f : Port → Port) : (s.modPort p f).tasks = s.tasks := rfl
@[simp] theorem modPort_nextTicket (f : Port → Port) : (s.modPort p f).nextTicket = s.nextTicket := rfl
@[simp] theorem modPort_starved (f : Port → Port) : (s.modPort p f).starved = s.starved := rfl
@[simp] theorem modPort_lanes (f : Port → Port) : (s.modPort p f).lanes = s.lanes := rfl
@[simp] theorem modPort_discs (f : Port → Port) : (s.modPort p f).discs = s.discs := rfl
@[simp] theorem modPort_discOrder (f : Port → Port) : (s.modPort p f).discOrder = s.discOrder := rfl
@[simp] theorem modPort_globals (f : Port → Port) : (s.modPort p f).globals = s.globals := rfl
@[simp] theorem modPort_due (f : Port → Port) : (s.modPort p f).due = s.due := rfl
@[simp] theorem modPort_pending (f : Port → Port) : (s.modPort p f).pending = s.pending := rfl
@[simp] theorem modPort_carousel (f : Port → Port) : (s.modPort p f).carousel c = s.carousel c := rfl
@[simp] theorem modPort_motion (f : Port → Port) : (s.modPort p f).motion c = s.motion c := rfl
@[simp] theorem modPort_task (f : Port → Port) (t : Ticket) : (s.modPort p f).task t = s.task t := rfl
@[simp] theorem modPort_lane (f : Port → Port) (l : LaneId) : (s.modPort p f).lane l = s.lane l := rfl
@[simp] theorem modPort_disc (f : Port → Port) (i : EntryId) : (s.modPort p f).disc i = s.disc i := rfl
@[simp] theorem modPort_carrier (f : Port → Port) (k : CarrierId) : (s.modPort p f).carrier c k = s.carrier c k := rfl
@[simp] theorem modPort_bay (f : Port → Port) (r : BayRef) : (s.modPort p f).bay r = s.bay r := rfl

/-! ## One lane, task or entry is written -/

@[simp] theorem modLane_lane_self (l : LaneId) (f : Lane → Lane) : (s.modLane l f).lane l = f (s.lane l) := by
  simp [State.modLane, State.lane]
@[simp] theorem modLane_lane_ne {l m : LaneId} (f : Lane → Lane) (h : l ≠ m) : (s.modLane l f).lane m = s.lane m := by
  simp [State.modLane, State.lane, h]
@[simp] theorem modLane_carousels (l : LaneId) (f : Lane → Lane) : (s.modLane l f).carousels = s.carousels := rfl
@[simp] theorem modLane_carousel (l : LaneId) (f : Lane → Lane) : (s.modLane l f).carousel c = s.carousel c := rfl
@[simp] theorem modLane_ports (l : LaneId) (f : Lane → Lane) : (s.modLane l f).ports = s.ports := rfl
@[simp] theorem modLane_port (l : LaneId) (f : Lane → Lane) : (s.modLane l f).port p = s.port p := rfl
@[simp] theorem modLane_tasks (l : LaneId) (f : Lane → Lane) : (s.modLane l f).tasks = s.tasks := rfl
@[simp] theorem modLane_task (l : LaneId) (f : Lane → Lane) (t : Ticket) : (s.modLane l f).task t = s.task t := rfl
@[simp] theorem modLane_globals (l : LaneId) (f : Lane → Lane) : (s.modLane l f).globals = s.globals := rfl
@[simp] theorem modLane_due (l : LaneId) (f : Lane → Lane) : (s.modLane l f).due = s.due := rfl
@[simp] theorem modLane_stamp (l : LaneId) (f : Lane → Lane) : (s.modLane l f).stamp = s.stamp := rfl
@[simp] theorem modLane_pending (l : LaneId) (f : Lane → Lane) : (s.modLane l f).pending = s.pending := rfl

@[simp] theorem setTask_task_self (t : Ticket) (x : Option Task) : (s.setTask t x).task t = x := by
  simp [State.setTask, State.task]
@[simp] theorem setTask_task_ne {t u : Ticket} (x : Option Task) (h : t ≠ u) : (s.setTask t x).task u = s.task u := by
  simp [State.setTask, State.task, h]
@[simp] theorem setTask_carousels (t : Ticket) (x : Option Task) : (s.setTask t x).carousels = s.carousels := rfl
@[simp] theorem setTask_carousel (t : Ticket) (x : Option Task) : (s.setTask t x).carousel c = s.carousel c := rfl
@[simp] theorem setTask_ports (t : Ticket) (x : Option Task) : (s.setTask t x).ports = s.ports := rfl
@[simp] theorem setTask_lanes (t : Ticket) (x : Option Task) : (s.setTask t x).lanes = s.lanes := rfl
@[simp] theorem setTask_due (t : Ticket) (x : Option Task) : (s.setTask t x).due = s.due := rfl

@[simp] theorem setDisc_disc_self (i : EntryId) (e : DiscEntry) : (s.setDisc i e).disc i = e := by
  simp [State.setDisc, State.disc]
@[simp] theorem setDisc_disc_ne {i j : EntryId} (e : DiscEntry) (h : i ≠ j) : (s.setDisc i e).disc j = s.disc j := by
  simp [State.setDisc, State.disc, h]
@[simp] theorem setDisc_carousels (i : EntryId) (e : DiscEntry) : (s.setDisc i e).carousels = s.carousels := rfl
@[simp] theorem setDisc_ports (i : EntryId) (e : DiscEntry) : (s.setDisc i e).ports = s.ports := rfl

/-! ## One motion record is written -/

@[simp] theorem modMotion_motion_self (f : Motion → Motion) : (s.modMotion c f).motion c = f (s.motion c) := by
  simp [State.modMotion, State.motion]
@[simp] theorem modMotion_motion_ne {c d : CarouselId} (f : Motion → Motion) (h : c ≠ d) :
    (s.modMotion c f).motion d = s.motion d := by simp [State.modMotion, State.motion, h]
@[simp] theorem modMotion_carousel_self (f : Motion → Motion) :
    (s.modMotion c f).carousel c = { s.carousel c with motion := f (s.carousel c).motion } := by
  simp [State.modMotion]
@[simp] theorem modMotion_carousel_ne {c d : CarouselId} (f : Motion → Motion) (h : c ≠ d) :
    (s.modMotion c f).carousel d = s.carousel d := by simp [State.modMotion, h]
@[simp] theorem modMotion_ports (f : Motion → Motion) : (s.modMotion c f).ports = s.ports := rfl
@[simp] theorem modMotion_port (f : Motion → Motion) : (s.modMotion c f).port p = s.port p := rfl
@[simp] theorem modMotion_due (f : Motion → Motion) : (s.modMotion c f).due = s.due := rfl
@[simp] theorem modMotion_task (f : Motion → Motion) (t : Ticket) : (s.modMotion c f).task t = s.task t := rfl

/-! ## What is due -/

@[simp] theorem dueUnhold_ports : s.dueUnhold.ports = s.ports := rfl
@[simp] theorem dueFace_ports : s.dueFace.ports = s.ports := rfl
@[simp] theorem duePass_ports : s.duePass.ports = s.ports := rfl
@[simp] theorem dueFreed_ports : s.dueFreed.ports = s.ports := rfl
@[simp] theorem dueSelect_ports : s.dueSelect.ports = s.ports := rfl
@[simp] theorem dueArbiter_ports : s.dueArbiter.ports = s.ports := rfl
@[simp] theorem dueSelect_carousel : s.dueSelect.carousel c = s.carousel c := rfl
@[simp] theorem dueArbiter_carousel : s.dueArbiter.carousel c = s.carousel c := rfl
@[simp] theorem duePass_carousel : s.duePass.carousel c = s.carousel c := rfl

@[simp] theorem dueUnhold_port : s.dueUnhold.port p = s.port p := rfl
@[simp] theorem dueUnhold_motion : s.dueUnhold.motion c = s.motion c := rfl
@[simp] theorem dueUnhold_task (t : Ticket) : s.dueUnhold.task t = s.task t := rfl
@[simp] theorem dueUnhold_lane (l : LaneId) : s.dueUnhold.lane l = s.lane l := rfl
@[simp] theorem dueUnhold_bay (r : BayRef) : s.dueUnhold.bay r = s.bay r := rfl
@[simp] theorem dueFace_port : s.dueFace.port p = s.port p := rfl
@[simp] theorem dueFace_motion : s.dueFace.motion c = s.motion c := rfl
@[simp] theorem dueFace_task (t : Ticket) : s.dueFace.task t = s.task t := rfl
@[simp] theorem dueFace_lane (l : LaneId) : s.dueFace.lane l = s.lane l := rfl
@[simp] theorem dueFace_bay (r : BayRef) : s.dueFace.bay r = s.bay r := rfl
@[simp] theorem duePass_port : s.duePass.port p = s.port p := rfl
@[simp] theorem duePass_motion : s.duePass.motion c = s.motion c := rfl
@[simp] theorem duePass_task (t : Ticket) : s.duePass.task t = s.task t := rfl
@[simp] theorem duePass_lane (l : LaneId) : s.duePass.lane l = s.lane l := rfl
@[simp] theorem duePass_bay (r : BayRef) : s.duePass.bay r = s.bay r := rfl
@[simp] theorem dueFreed_port : s.dueFreed.port p = s.port p := rfl
@[simp] theorem dueFreed_motion : s.dueFreed.motion c = s.motion c := rfl
@[simp] theorem dueFreed_task (t : Ticket) : s.dueFreed.task t = s.task t := rfl
@[simp] theorem dueFreed_lane (l : LaneId) : s.dueFreed.lane l = s.lane l := rfl
@[simp] theorem dueFreed_bay (r : BayRef) : s.dueFreed.bay r = s.bay r := rfl
@[simp] theorem dueSelect_port : s.dueSelect.port p = s.port p := rfl
@[simp] theorem dueSelect_motion : s.dueSelect.motion c = s.motion c := rfl
@[simp] theorem dueSelect_task (t : Ticket) : s.dueSelect.task t = s.task t := rfl
@[simp] theorem dueSelect_lane (l : LaneId) : s.dueSelect.lane l = s.lane l := rfl
@[simp] theorem dueSelect_bay (r : BayRef) : s.dueSelect.bay r = s.bay r := rfl
@[simp] theorem dueArbiter_port : s.dueArbiter.port p = s.port p := rfl
@[simp] theorem dueArbiter_motion : s.dueArbiter.motion c = s.motion c := rfl
@[simp] theorem dueArbiter_task (t : Ticket) : s.dueArbiter.task t = s.task t := rfl
@[simp] theorem dueArbiter_lane (l : LaneId) : s.dueArbiter.lane l = s.lane l := rfl
@[simp] theorem dueArbiter_bay (r : BayRef) : s.dueArbiter.bay r = s.bay r := rfl
@[simp] theorem dueUnhold_carousel : s.dueUnhold.carousel c = s.carousel c := rfl
@[simp] theorem dueFace_carousel : s.dueFace.carousel c = s.carousel c := rfl
@[simp] theorem dueFreed_carousel : s.dueFreed.carousel c = s.carousel c := rfl

/-! ## Two updates of the same place -/

theorem modCarousel_modCarousel (f g : Carousel → Carousel) :
    (s.modCarousel c f).modCarousel c g = s.modCarousel c (g ∘ f) := by
  simp [State.modCarousel, State.carousel]

theorem modMotion_modMotion (f g : Motion → Motion) :
    (s.modMotion c f).modMotion c g = s.modMotion c (g ∘ f) := by
  simp only [State.modMotion, modCarousel_modCarousel]; rfl

theorem modCarousel_congr {f g : Carousel → Carousel} (h : f (s.carousel c) = g (s.carousel c)) :
    s.modCarousel c f = s.modCarousel c g := by simp [State.modCarousel, h]

theorem modMotion_congr {f g : Motion → Motion} (h : f (s.motion c) = g (s.motion c)) :
    s.modMotion c f = s.modMotion c g := by
  apply modCarousel_congr; show { s.carousel c with motion := f (s.motion c) } = _; rw [h]; rfl

/-- An update that changes nothing. -/
theorem modCarousel_id {f : Carousel → Carousel} (h : f (s.carousel c) = s.carousel c) : s.modCarousel c f = s := by
  show { s with carousels := put s.carousels c (f (s.carousel c)) } = s
  rw [h, State.carousel, put_look_self]

theorem modLane_modLane (l : LaneId) (f g : Lane → Lane) : (s.modLane l f).modLane l g = s.modLane l (g ∘ f) := by
  simp [State.modLane, State.lane]

theorem modLane_congr (l : LaneId) {f g : Lane → Lane} (h : f (s.lane l) = g (s.lane l)) :
    s.modLane l f = s.modLane l g := by simp [State.modLane, h]

theorem modLane_id (l : LaneId) {f : Lane → Lane} (h : f (s.lane l) = s.lane l) : s.modLane l f = s := by
  show { s with lanes := put s.lanes l (f (s.lane l)) } = s
  rw [h, State.lane, put_look_self]

/-- Nothing is due: nothing follows. -/
theorem settle_of_nothing_due (h : s.due = {}) : s.settle = s := by
  have h1 : s.releaseHolds = s := by simp [State.releaseHolds, h]
  have h2 : s.settleFaces = s := by simp [State.settleFaces, h]
  have h3 : s.settlePass = s := by simp [State.settlePass, h]
  have h4 : s.settleSelect = s := by simp [State.settleSelect, h]
  have h5 : s.settleArbiter = s := by simp [State.settleArbiter, h]
  rw [State.settle, h1, h2, h3, h4, h5, State.begin, ← h]

end Sys2Proof.Machine
end

