-- ==== Sys2Proof/Laws/Ports.lean ====
section
/-! SUPPORT. Laws/Ports.lean: notices and responses change ports and nothing else: what `inner` keeps of each named
update, and what each port is after it. -/

namespace Sys2Proof.Machine

variable (s : State) (c d : CarouselId) (p q : PortId)

/-! ## Everything but the ports -/

@[simp] theorem modPort_inner (f : Port → Port) : (s.modPort p f).inner = s.inner := rfl
@[simp] theorem post_inner (n : Notice) : (s.post p n).inner = s.inner := rfl
@[simp] theorem respond_inner (rt : ReplyTo) (o : ReplyCode) (b : List Byte) : (s.respond rt o b).inner = s.inner := rfl
@[simp] theorem refuse_inner (rt : ReplyTo) (o : ReplyCode) : (s.refuse rt o).inner = s.inner := rfl
@[simp] theorem begin_inner : s.begin.inner = s.inner := rfl
@[simp] theorem accepted_inner : (s.accepted p).inner = s.inner := rfl
@[simp] theorem postCarousel_inner : (s.postCarousel c).inner = s.inner := rfl
@[simp] theorem postLaneState_inner (l : LaneId) : (s.postLaneState p l).inner = s.inner := rfl
@[simp] theorem postLaneStateBoth_inner (l : LaneId) : (s.postLaneStateBoth l).inner = s.inner := rfl
@[simp] theorem postStation_inner (n : Notice) : (s.postStation c n).inner = s.inner := by
  unfold State.postStation; split <;> rfl
@[simp] theorem dueUnhold_inner : s.dueUnhold.inner = s.inner := rfl
@[simp] theorem dueFace_inner : s.dueFace.inner = s.inner := rfl
@[simp] theorem duePass_inner : s.duePass.inner = s.inner := rfl
@[simp] theorem dueFreed_inner : s.dueFreed.inner = s.inner := rfl
@[simp] theorem dueSelect_inner : s.dueSelect.inner = s.inner := rfl
@[simp] theorem dueArbiter_inner : s.dueArbiter.inner = s.inner := rfl

theorem modCarousel_inner (f : Carousel → Carousel) : (s.modCarousel c f).inner = s.inner.modCarousel c f := rfl
theorem modMotion_inner (f : Motion → Motion) : (s.modMotion c f).inner = s.inner.modMotion c f := rfl
theorem modLane_inner (l : LaneId) (f : Lane → Lane) : (s.modLane l f).inner = s.inner.modLane l f := rfl
theorem setTask_inner (t : Ticket) (x : Option Task) : (s.setTask t x).inner = s.inner.setTask t x := rfl
theorem setDisc_inner (i : EntryId) (e : DiscEntry) : (s.setDisc i e).inner = s.inner.setDisc i e := rfl

@[simp] theorem inner_carousel : s.inner.carousel c = s.carousel c := rfl
@[simp] theorem inner_motion : s.inner.motion c = s.motion c := rfl
@[simp] theorem inner_task (t : Ticket) : s.inner.task t = s.task t := rfl
@[simp] theorem inner_lane (l : LaneId) : s.inner.lane l = s.lane l := rfl
@[simp] theorem inner_disc (i : EntryId) : s.inner.disc i = s.disc i := rfl

/-! ## Reading the accepted state -/

@[simp] theorem accepted_carousel : (s.accepted p).carousel c = s.carousel c := rfl
@[simp] theorem accepted_motion : (s.accepted p).motion c = s.motion c := rfl
@[simp] theorem accepted_bay (r : BayRef) : (s.accepted p).bay r = s.bay r := rfl
@[simp] theorem accepted_carrier (k : CarrierId) : (s.accepted p).carrier c k = s.carrier c k := rfl
@[simp] theorem accepted_task (t : Ticket) : (s.accepted p).task t = s.task t := rfl
@[simp] theorem accepted_lane (l : LaneId) : (s.accepted p).lane l = s.lane l := rfl
@[simp] theorem accepted_disc (i : EntryId) : (s.accepted p).disc i = s.disc i := rfl
@[simp] theorem accepted_globals : (s.accepted p).globals = s.globals := rfl
@[simp] theorem accepted_stamp : (s.accepted p).stamp = s.stamp := rfl
@[simp] theorem accepted_due : (s.accepted p).due = {} := rfl
@[simp] theorem accepted_pending : (s.accepted p).pending = s.pending := rfl
theorem accepted_port : (s.accepted p).port q = if q = p then (s.port q).taken else s.port q := by
  simp only [State.accepted, modPort_port]
  by_cases h : p = q
  · subst h; simp [State.begin, State.port]
  · simp [h, Ne.symm h, State.begin, State.port]

/-! ## Ports after a notice or a response -/

@[simp] theorem post_carousel (n : Notice) : (s.post p n).carousel c = s.carousel c := rfl
@[simp] theorem post_motion (n : Notice) : (s.post p n).motion c = s.motion c := rfl
@[simp] theorem post_lane (n : Notice) (l : LaneId) : (s.post p n).lane l = s.lane l := rfl
@[simp] theorem post_task (n : Notice) (t : Ticket) : (s.post p n).task t = s.task t := rfl
@[simp] theorem post_due (n : Notice) : (s.post p n).due = s.due := rfl
@[simp] theorem respond_due (rt : ReplyTo) (o : ReplyCode) (b : List Byte) : (s.respond rt o b).due = s.due := rfl

theorem post_port (n : Notice) : (s.post p n).port q = if p = q then (s.port q).post n else s.port q := by
  rw [State.post, modPort_port]; split
  · next h => rw [h]
  · rfl

theorem respond_port (rt : ReplyTo) (o : ReplyCode) (b : List Byte) :
    (s.respond rt o b).port q
      = if rt.port = q then (s.port q).place (responseCode rt.code) rt.tag o b else s.port q := by
  rw [State.respond, modPort_port]; split
  · next h => rw [h]
  · rfl

/-- Posts one at a time. -/
theorem postsTo_cons (n : PortId × Notice) (rest : List (PortId × Notice)) (x : Port) :
    postsTo (n :: rest) q x = postsTo rest q (if n.1 = q then x.post n.2 else x) := by
  by_cases h : n.1 = q <;> simp [postsTo, h]

@[simp] theorem postsTo_nil (x : Port) : postsTo [] q x = x := rfl

/-! ## Queues stay within their eight places (R157) -/

theorem startNext_queue_le (x : Port) : x.startNext.queue.length ≤ x.queue.length := by
  unfold Port.startNext
  split
  · exact le_refl _
  · split
    · exact le_refl _
    · split
      · exact le_refl _
      · next h => simp [h]

theorem post_queue_le (n : Notice) (x : Port) (h : x.queue.length ≤ Config.noticeQueuePlaces) :
    (x.post n).queue.length ≤ Config.noticeQueuePlaces := by
  unfold Port.post
  split
  · next h1 => exact le_trans (startNext_queue_le _) (by simpa using h1)
  · exact h

theorem place_queue_le (code tag : Byte) (o : ReplyCode) (b : List Byte) (x : Port)
    (h : x.queue.length ≤ Config.noticeQueuePlaces) :
    (x.place code tag o b).queue.length ≤ Config.noticeQueuePlaces :=
  le_trans (startNext_queue_le _) h

end Sys2Proof.Machine
end

