-- ==== Sys2Proof/Laws/Serve.lean ====
section
/-! SUPPORT. Laws/Serve.lean: how a request reaches its block: field bytes read back, codes name their request, and a
request that passes the five checks of Table 9-1 on a ready port is taken at once (R153, R154). -/

namespace Sys2Proof

/-! ## Field bytes -/

@[simp] theorem bytesOf_length (k n : Nat) : (bytesOf k n).length = k := by
  induction k with
  | zero => rfl
  | succ k ih => simp [bytesOf, ih]

/-- An unsigned field reads back as it was written, modulo its width (R167). -/
theorem natOf_bytesOf_mod (k n : Nat) : natOf (bytesOf k n) = n % 256 ^ k := by
  induction k with
  | zero => simp [bytesOf, natOf, Nat.mod_one]
  | succ k ih =>
    simp only [bytesOf, natOf, bytesOf_length, ih, BitVec.toNat_ofNat]
    have h : n % 256 ^ (k + 1) = n % 256 ^ k + 256 ^ k * (n / 256 ^ k % 256) := by rw [Nat.pow_succ, Nat.mod_mul]
    rw [h, Nat.add_comm, Nat.mul_comm]

theorem natOf_bytesOf {k n : Nat} (h : n < 256 ^ k) : natOf (bytesOf k n) = n := by
  rw [natOf_bytesOf_mod, Nat.mod_eq_of_lt h]

/-- A code byte names its request (Table 11-2). -/
@[simp] theorem RequestCode.ofByte_byte (c : RequestCode) : RequestCode.ofByte c.byte = some c := by
  cases c <;> decide

theorem field2 (v : BitVec 16) : field 2 v = [BitVec.ofNat 8 (v.toNat / 256), BitVec.ofNat 8 v.toNat] := by
  simp [field, bytesOf]

theorem field3 (v : BitVec 24) : field 3 v =
    [BitVec.ofNat 8 (v.toNat / 65536), BitVec.ofNat 8 (v.toNat / 256), BitVec.ofNat 8 v.toNat] := by
  simp [field, bytesOf]

theorem field4 (v : BitVec 32) : field 4 v =
    [BitVec.ofNat 8 (v.toNat / 16777216), BitVec.ofNat 8 (v.toNat / 65536), BitVec.ofNat 8 (v.toNat / 256),
     BitVec.ofNat 8 v.toNat] := by
  simp [field, bytesOf]

theorem natOf_field2 (v : BitVec 16) :
    natOf [BitVec.ofNat 8 (v.toNat / 256), BitVec.ofNat 8 v.toNat] = v.toNat := by
  rw [← field2]; exact natOf_bytesOf v.isLt

theorem natOf_field3 (v : BitVec 24) :
    natOf [BitVec.ofNat 8 (v.toNat / 65536), BitVec.ofNat 8 (v.toNat / 256), BitVec.ofNat 8 v.toNat] = v.toNat := by
  rw [← field3]; exact natOf_bytesOf v.isLt

theorem natOf_field4 (v : BitVec 32) :
    natOf [BitVec.ofNat 8 (v.toNat / 16777216), BitVec.ofNat 8 (v.toNat / 65536), BitVec.ofNat 8 (v.toNat / 256),
      BitVec.ofNat 8 v.toNat] = v.toNat := by
  rw [← field4]; exact natOf_bytesOf v.isLt

/-! ## Field domains -/

theorem index?_byteOf {n : Nat} (hn : n ≤ 256) (i : Fin n) : index? n (Machine.byteOf i.val) = some i := by
  have h : i.val < 256 := lt_of_lt_of_le i.isLt hn
  simp [index?, Machine.byteOf, Nat.mod_eq_of_lt h]

@[simp] theorem index?_carousel (c : CarouselId) : index? 6 (Machine.byteOf c.val) = some c := index?_byteOf (by omega) c
@[simp] theorem index?_carrier (k : CarrierId) : index? 40 (Machine.byteOf k.val) = some k := index?_byteOf (by omega) k
@[simp] theorem index?_bay (b : BayId) : index? 4 (Machine.byteOf b.val) = some b := index?_byteOf (by omega) b
@[simp] theorem index?_lane (l : LaneId) : index? 32 (Machine.byteOf l.val) = some l := index?_byteOf (by omega) l
@[simp] theorem index?_ticket (t : Ticket) : index? 256 (Machine.byteOf t.val) = some t := index?_byteOf (by omega) t

theorem byteOf_toNat {n : Nat} (h : n < 256) : (Machine.byteOf n).toNat = n := by
  simp [Machine.byteOf, Nat.mod_eq_of_lt h]

theorem within?_of {lo hi n : Nat} (h : lo ≤ n ∧ n ≤ hi) : within? lo hi n = some n := by simp [within?, h]

namespace Machine

variable (s : State) (p : PortId)

@[simp] theorem modPort_modPort (f g : Port → Port) : (s.modPort p f).modPort p g = s.modPort p (g ∘ f) := by
  simp [State.modPort, State.port]

theorem modPort_congr {f g : Port → Port} (h : f (s.port p) = g (s.port p)) : s.modPort p f = s.modPort p g := by
  simp [State.modPort, h]

/-- A good frame on a ready port is served at once (R153). -/
theorem endFrame_ready (h : s.readyFor p) (f : Frame) (hw : f.wellFormed = true) :
    s.begin.endFrame p (.good f) = (s.accepted p).serve p f := by
  obtain ⟨-, hb, hs, hi⟩ := h
  have e : ∀ x : State, x.begin.port p = x.port p := fun _ => rfl
  simp only [State.endFrame, hw, if_true, State.acceptFrame, modPort_port_self, e, hb, Option.isSome_none,
    Bool.false_eq_true, if_false, State.dispatch, modPort_modPort, Function.comp, hs, hi, or_self]
  rfl

theorem operation_running (f : State → State) (h : s.part = .running) : s.operation f = (f s.begin).settle := by
  simp [State.operation, h]

/-- A request that passes the five checks of Table 9-1 is taken by its block (R154), and what its operation made due
follows. -/
theorem request_taken (hd : Header) (code : RequestCode) (payload : List Byte) (r : Request)
    (hr : s.readyFor hd.port) (hw : payload.length ≤ Config.maxPayload) (ha : code.allowedOn hd.port = true)
    (hp : parseRequest code payload = some r) (hm : s.stationMay hd.port r = true) :
    s.request hd code payload = ((s.accepted hd.port).take ⟨hd.port, code.byte, hd.tag⟩ r).settle := by
  have hst : (s.accepted hd.port).isStarting = false := by
    have : (s.accepted hd.port).part = .running := hr.1
    simp [State.isStarting, this]
  have hm' : (s.accepted hd.port).stationMay hd.port r = true := hm
  rw [State.request, operation_running _ _ hr.1,
    endFrame_ready s hd.port hr ⟨code.byte, hd.tag, payload⟩ (by simpa [Frame.wellFormed] using hw)]
  simp [State.serve, ha, hst, hp, hm']

/-- The ports when the block has done its work and not yet answered: the request's frame taken and the notices of the
command posted. -/
theorem respond_portAfter (hd : Header) (code : RequestCode) (posts : List (PortId × Notice)) (outcome : ReplyCode)
    (body : List Byte) (y : State)
    (hy : ∀ q, y.port q = postsTo posts q (if q = hd.port then (s.port q).taken else s.port q)) (q : PortId) :
    (y.respond ⟨hd.port, code.byte, hd.tag⟩ outcome body).port q = s.portAfter hd code posts outcome body q := by
  rw [respond_port, hy, State.portAfter]
  by_cases h : q = hd.port
  · subst h; simp
  · simp [h, Ne.symm h]

/-- A request completes as its block's work `y` says. -/
theorem completesThen_of {i : Instr} {hd : Header} {code : RequestCode} {payload : List Byte} {r : Request}
    {outcome : ReplyCode} {body : List Byte} {posts : List (PortId × Notice)} {due : Due} {u : State} (y : State)
    (hi : exec i s = .next (s.request hd code payload))
    (hr : s.readyFor hd.port) (hw : payload.length ≤ Config.maxPayload) (ha : code.allowedOn hd.port = true)
    (hp : parseRequest code payload = some r) (hm : s.stationMay hd.port r = true)
    (ht : (s.accepted hd.port).take ⟨hd.port, code.byte, hd.tag⟩ r = y.respond ⟨hd.port, code.byte, hd.tag⟩ outcome body)
    (hdue : y.due = due) (hin : y.inner = u.inner)
    (hy : ∀ q, y.port q = postsTo posts q (if q = hd.port then (s.port q).taken else s.port q)) :
    CompletesThen i s hd code outcome body posts due u := by
  refine ⟨y.respond ⟨hd.port, code.byte, hd.tag⟩ outcome body, ?_, by simpa using hdue, by simpa using hin,
    respond_portAfter s hd code posts outcome body y hy⟩
  rw [hi, request_taken s hd code payload r hr hw ha hp hm, ht]

/-- Where nothing is due nothing follows. -/
theorem CompletesThen.completes {i : Instr} {s : State} {hd : Header} {code : RequestCode} {outcome : ReplyCode}
    {body : List Byte} {posts : List (PortId × Notice)} {u : State}
    (h : CompletesThen i s hd code outcome body posts {} u) : Completes i s hd code outcome body posts u := by
  obtain ⟨x, h1, h2, h3, h4⟩ := h
  exact ⟨x, by rw [h1, settle_of_nothing_due x h2], h3, h4⟩

end Machine

end Sys2Proof
end

