-- ==== Sys2Proof/Laws/Parse.lean ====
section
/-! SUPPORT. Laws/Parse.lean: what the dispatcher reads from the payload of each request whose fields lie in their
domains (R154, checks 3 and 4; Table 11-2). -/

namespace Sys2Proof

open Machine (byteOf)

theorem parse_configure (i x : Byte) (v : BitVec 32) (it : ConfigItem) (h : item? i x = some it) :
    parseRequest .configure ([i, x] ++ field 4 v) = some (.configure it v.toNat) := by
  rw [field4]
  show (item? i x).map _ = _
  rw [h, natOf_field4]; rfl

theorem parse_enrol (c : CarouselId) : parseRequest .enrol [byteOf c.val] = some (.enrol c) := by
  show (index? 6 _).map _ = _
  simp

theorem parse_withdraw (c : CarouselId) : parseRequest .withdraw [byteOf c.val] = some (.withdraw c) := by
  show (index? 6 _).map _ = _
  simp

theorem parse_hold (c : CarouselId) (on : Bool) :
    parseRequest .hold [byteOf c.val, if on then 1 else 0] = some (.hold c on) := by
  show (do pure (Request.hold (← index? 6 _) (← flag? _))) = _
  rw [index?_carousel]
  cases on <;> rfl

theorem parse_readCarousel (c : CarouselId) : parseRequest .readCarousel [byteOf c.val] = some (.readCarousel c) := by
  show (index? 6 _).map _ = _
  simp

theorem bayRef?_byteOf (r : BayRef) :
    bayRef? (byteOf r.carousel.val) (byteOf r.carrier.val) (byteOf r.bay.val) = some r := by
  simp [bayRef?]

theorem parse_readBay (r : BayRef) :
    parseRequest .readBay [byteOf r.carousel.val, byteOf r.carrier.val, byteOf r.bay.val] = some (.readBay r) := by
  show (bayRef? _ _ _).map _ = _
  rw [bayRef?_byteOf]; rfl

theorem parse_readCarrier (c : CarouselId) (k : CarrierId) :
    parseRequest .readCarrier [byteOf c.val, byteOf k.val] = some (.readCarrier c k) := by
  show (do pure (Request.readCarrier (← index? 6 _) (← index? 40 _))) = _
  simp

theorem parse_findLots (a : BitVec 24) (h : 1 ≤ a.toNat ∧ a.toNat ≤ 999999) :
    parseRequest .findLots (field 3 a) = some (.findLots a.toNat) := by
  rw [field3]
  show (article? _).map _ = _
  rw [natOf_field3, article?, within?_of h]; rfl

theorem parse_putCancel (t : Ticket) : parseRequest .putCancel [byteOf t.val] = some (.putCancel t) := by
  show (index? 256 _).map _ = _
  simp

theorem parse_orderOpen (l : LaneId) (ref : BitVec 32) (u : Bool) :
    parseRequest .orderOpen ([byteOf l.val] ++ field 4 ref ++ [if u then 1 else 0]) = some (.orderOpen l ref u) := by
  rw [field4]
  show (do
    let l ← index? 32 _
    let u ← flag? _
    pure (Request.orderOpen l (BitVec.ofNat 32 _) u)) = _
  rw [index?_lane, natOf_field4]
  cases u <;> simp [flag?]

theorem parse_orderCancel (l : LaneId) : parseRequest .orderCancel [byteOf l.val] = some (.orderCancel l) := by
  show (index? 32 _).map _ = _
  simp

theorem parse_readLane (l : LaneId) (p : Nat) (h : p ≤ 8) :
    parseRequest .readLane [byteOf l.val, byteOf p] = some (.readLane l p) := by
  show (do pure (Request.readLane (← index? 32 _) (← within? 0 8 _))) = _
  rw [byteOf_toNat (by omega), within?_of ⟨by omega, h⟩]; simp

theorem parse_auditStop (c : CarouselId) : parseRequest .auditStop [byteOf c.val] = some (.auditStop c) := by
  show (index? 6 _).map _ = _
  simp

theorem parse_discAck (i : EntryId) : parseRequest .discAck [byteOf i.val] = some (.discAck i) := by
  show (index? 32 _).map _ = _
  rw [index?_lane]; rfl

theorem parse_readDiscrepancy (i : EntryId) :
    parseRequest .readDiscrepancy [byteOf i.val] = some (.readDiscrepancy (some i)) := by
  have : byteOf i.val ≠ 0xFF := by
    intro h; have := congrArg BitVec.toNat h; rw [byteOf_toNat (by omega)] at this; simp at this; omega
  show (optionalIndex? 32 _).map _ = _
  rw [optionalIndex?, if_neg this, index?_lane]; rfl

theorem parse_readDiscrepancy_none : parseRequest .readDiscrepancy [0xFF] = some (.readDiscrepancy none) := rfl

theorem parse_pickConfirm (t : Ticket) (k : Nat) (h : k ≤ 15) :
    parseRequest .pickConfirm [byteOf t.val, byteOf k] = some (.pickConfirm t k) := by
  show (do pure (Request.pickConfirm (← index? 256 _) (← within? 0 15 _))) = _
  rw [byteOf_toNat (by omega), within?_of ⟨by omega, h⟩]; simp

theorem parse_putConfirm (t : Ticket) (j : Nat) (h : j ≤ 255) :
    parseRequest .putConfirm [byteOf t.val, byteOf j] = some (.putConfirm t j) := by
  show (index? 256 _).map _ = _
  rw [byteOf_toNat (by omega)]; simp

theorem parse_auditCount (c : CarouselId) (b : BayId) (n : Nat) (h : n ≤ 15) :
    parseRequest .auditCount [byteOf c.val, byteOf b.val, byteOf n] = some (.auditCount c b n) := by
  show (do pure (Request.auditCount (← index? 6 _) (← index? 4 _) (← within? 0 15 _))) = _
  rw [byteOf_toNat (by omega), within?_of ⟨by omega, h⟩]; simp

theorem parse_faceRelease (c : CarouselId) (k : CarrierId) :
    parseRequest .faceRelease [byteOf c.val, byteOf k.val] = some (.faceRelease c k) := by
  show (do pure (Request.faceRelease (← index? 6 _) (← index? 40 _))) = _
  simp

theorem parse_resume (c : CarouselId) : parseRequest .resume [byteOf c.val] = some (.resume c) := by
  show (index? 6 _).map _ = _
  simp

theorem parse_readFace (c : CarouselId) (f : Nat) (h : f ≤ 255) :
    parseRequest .readFace [byteOf c.val, byteOf f] = some (.readFace c f) := by
  show (index? 6 _).map _ = _
  rw [byteOf_toNat (by omega)]; simp

theorem parse_position (o : Nat) (h : o ≤ 39) : parseRequest .position [byteOf o] = some (.position o) := by
  show (within? 0 39 _).map _ = _
  rw [byteOf_toNat (by omega), within?_of ⟨by omega, h⟩]; rfl

theorem parse_arrived (o : Nat) (h : o ≤ 39) : parseRequest .arrived [byteOf o] = some (.arrived o) := by
  show (within? 0 39 _).map _ = _
  rw [byteOf_toNat (by omega), within?_of ⟨by omega, h⟩]; rfl

theorem parse_stopped (o : Nat) (h : o ≤ 39) : parseRequest .stopped [byteOf o] = some (.stopped o) := by
  show (within? 0 39 _).map _ = _
  rw [byteOf_toNat (by omega), within?_of ⟨by omega, h⟩]; rfl

theorem parse_fault (x : Nat) (h : 1 ≤ x ∧ x ≤ 15) : parseRequest .fault [byteOf x] = some (.fault x) := by
  show (within? 1 15 _).map _ = _
  rw [byteOf_toNat (by omega), within?_of h]; rfl

theorem parse_arrival (l : LaneId) (a : BitVec 24) (w : BitVec 16) (ha : 1 ≤ a.toNat ∧ a.toNat ≤ 999999)
    (hw : 1 ≤ w.toNat ∧ w.toNat ≤ 4095) :
    parseRequest .arrival ([byteOf l.val] ++ field 3 a ++ field 2 w) = some (.arrival l a.toNat w.toNat) := by
  rw [field3, field2]
  show (do
    let l ← index? 32 _
    let a ← article? _
    pure (Request.arrival l a (← within? 1 4095 _))) = _
  rw [index?_lane, natOf_field3, natOf_field2, article?, within?_of ha, within?_of hw]; rfl

theorem parse_laneRelease (l : LaneId) : parseRequest .laneRelease [byteOf l.val] = some (.laneRelease l) := by
  show (index? 32 _).map _ = _
  simp

theorem parse_laneEmpty (l : LaneId) : parseRequest .laneEmpty [byteOf l.val] = some (.laneEmpty l) := by
  show (index? 32 _).map _ = _
  simp

theorem parse_strayClear (l : LaneId) (n : Nat) (h : 1 ≤ n ∧ n ≤ 15) :
    parseRequest .strayClear [byteOf l.val, byteOf n] = some (.strayClear l n) := by
  show (do pure (Request.strayClear (← index? 32 _) (← within? 1 15 _))) = _
  rw [byteOf_toNat (by omega), within?_of h]; simp

end Sys2Proof
end

