-- ==== Sys2Proof/Laws/Motion.lean ====
section
/-! SUPPORT. Laws/Motion.lean: what each shared operation of the motion unit does, said once: the motion record, the
notices and what is left due. -/

namespace Sys2Proof.Machine

variable (s : State) (c d : CarouselId) (q : PortId)

theorem outOfService_iff (m : MotionState) : m.outOfService = true ↔ m = .offline ∨ m = .withdrawn := by
  cases m <;> decide

theorem holdsPermit_iff (m : MotionState) : m.holdsPermit = true ↔ m = .moving ∨ m = .stopping ∨ m = .suspended := by
  cases m <;> decide

/-! ## Ports -/

theorem isDrivePort_drivePort : isDrivePort (drivePort c) = true := by revert c; decide
theorem isStationPort_stationPort (st : StationId) : isStationPort (stationPort st) = true := by revert st; decide
theorem driveCarousel_drivePort : driveCarousel (drivePort c) = c := by revert c; decide

/-- The CAROUSEL notice of a carousel as it stands (R113). -/
def carouselNotice (c : CarouselId) (x : Carousel) : Notice :=
  .carousel c x.motion.state x.motion.fault x.motion.hold x.balance.overweight x.balance.peak

theorem postCarousel_eq : s.postCarousel c = s.post stockPort (carouselNotice c (s.carousel c)) := rfl
@[simp] theorem postCarousel_carousel : (s.postCarousel c).carousel d = s.carousel d := rfl
@[simp] theorem postCarousel_motion : (s.postCarousel c).motion d = s.motion d := rfl
@[simp] theorem postCarousel_due : (s.postCarousel c).due = s.due := rfl

/-! ## Returning a permit (R100, R101) -/

@[simp] theorem returnPermit_inner (m : MotionState) : (s.returnPermit m).inner = s.inner := by
  unfold State.returnPermit; split <;> rfl
@[simp] theorem returnPermit_port (m : MotionState) : (s.returnPermit m).port q = s.port q := by
  unfold State.returnPermit; split <;> rfl
@[simp] theorem returnPermit_carousel (m : MotionState) : (s.returnPermit m).carousel d = s.carousel d := by
  unfold State.returnPermit; split <;> rfl
theorem returnPermit_due (m : MotionState) :
    (s.returnPermit m).due = { s.due with arbiter := s.due.arbiter || m.holdsPermit } := by
  unfold State.returnPermit; cases h : m.holdsPermit <;> simp [State.dueArbiter]

/-! ## Entering FAULTED and IDLE (R109, R84, R89) -/

theorem goFaulted_inner : (s.goFaulted c).inner = s.inner.modMotion c fun m => m.rest .faulted := by
  simp [State.goFaulted, modMotion_inner]

theorem goFaulted_port :
    (s.goFaulted c).port q =
      if stockPort = q then
        (s.port q).post (.carousel c .faulted (s.motion c).fault (s.motion c).hold (s.carousel c).balance.overweight
          (s.carousel c).balance.peak)
      else s.port q := by
  rw [State.goFaulted, returnPermit_port, postCarousel_eq, post_port, modMotion_port, carouselNotice]
  simp [Motion.rest]; rfl

theorem goFaulted_due :
    (s.goFaulted c).due = { s.due with arbiter := s.due.arbiter || (s.motion c).state.holdsPermit } := by
  rw [State.goFaulted, returnPermit_due]; rfl

theorem enterFaulted_inner (cause : FaultCause) :
    (s.enterFaulted c cause).inner
      = s.inner.modMotion c fun m => { m.rest .faulted with fault := some cause } := by
  rw [State.enterFaulted, goFaulted_inner, modMotion_inner, modMotion_modMotion]; rfl

theorem enterFaulted_port (cause : FaultCause) :
    (s.enterFaulted c cause).port q =
      if stockPort = q then
        (s.port q).post (.carousel c .faulted (some cause) (s.motion c).hold (s.carousel c).balance.overweight
          (s.carousel c).balance.peak)
      else s.port q := by
  rw [State.enterFaulted, goFaulted_port]; simp

theorem enterFaulted_due (cause : FaultCause) :
    (s.enterFaulted c cause).due = { s.due with arbiter := s.due.arbiter || (s.motion c).state.holdsPermit } := by
  rw [State.enterFaulted, goFaulted_due]; simp

theorem enterIdle_inner : (s.enterIdle c).inner = s.inner.modMotion c fun m => m.rest .idle := by
  simp [State.enterIdle, modMotion_inner]

theorem enterIdle_port : (s.enterIdle c).port q = s.port q := by
  simp [State.enterIdle]

theorem enterIdle_due :
    (s.enterIdle c).due =
      { s.due with arbiter := s.due.arbiter || (s.motion c).state.holdsPermit, select := true } := by
  simp [State.enterIdle, State.dueSelect, returnPermit_due]

/-! ## A move (R102, R108) -/

theorem startMove_inner (target : Nat) :
    (s.startMove c target).inner = s.inner.modMotion c fun x =>
      { x with
        state := .moving,
        lastMove := some ⟨(rotation (s.carousel c).cfg.n ((s.motion c).held.getD 0) target).1,
          (rotation (s.carousel c).cfg.n ((s.motion c).held.getD 0) target).2⟩,
        moveTimer := some (s.moveTimeout c (rotation (s.carousel c).cfg.n ((s.motion c).held.getD 0) target).2) } := by
  simp [State.startMove, modMotion_inner]

theorem startMove_port (target : Nat) :
    (s.startMove c target).port q =
      if drivePort c = q then
        (s.port q).post (.move target (rotation (s.carousel c).cfg.n ((s.motion c).held.getD 0) target).1
          (rotation (s.carousel c).cfg.n ((s.motion c).held.getD 0) target).2)
      else s.port q := by
  simp [State.startMove, post_port]

/-- Working a move back gives the offset it started from (R23, R32). -/
theorem moveOrigin_rotation {n k t : Nat} (hk : k < n) (ht : t < n) :
    moveOrigin n t ⟨(rotation n k t).1, (rotation n k t).2⟩ = k := by
  have key : ∃ f, (t + n - k) % n = f ∧ (t = k + f ∨ t + n = k + f) ∧ f < n := by
    refine ⟨_, rfl, ?_, Nat.mod_lt _ (by omega)⟩
    by_cases h : k ≤ t
    · rw [show t + n - k = t - k + n by omega, Nat.add_mod_right, Nat.mod_eq_of_lt (by omega)]; omega
    · rw [Nat.mod_eq_of_lt (by omega)]; omega
  obtain ⟨f, hf, h, hn⟩ := key
  simp only [moveOrigin, rotation, hf]
  by_cases hw : f ≤ n - f
  · simp only [if_pos hw]
    rcases h with h | h
    · rw [show t + n - f = k + n by omega, Nat.add_mod_right, Nat.mod_eq_of_lt hk]
    · rw [show t + n - f = k by omega, Nat.mod_eq_of_lt hk]
  · simp only [if_neg hw]
    rcases h with h | h
    · rw [show t + (n - f) = k + n by omega, Nat.add_mod_right, Nat.mod_eq_of_lt hk]
    · rw [show t + (n - f) = k by omega, Nat.mod_eq_of_lt hk]

theorem rankOffset_atRest (n : Nat) (m : Motion) (h : m.state.holdsPermit = false) : m.rankOffset n = m.held.getD 0 := by
  simp [Motion.rankOffset, h]

/-- On a move that started at offset k, and stopped short of its target too, key 5 measures from k (R42). -/
theorem rankOffset_turning {n k : Nat} {m : Motion} {w : Choice} (h : m.state.holdsPermit = true) (hc : m.chosen = some w)
    (hk : k < n) (ht : w.target < n)
    (hl : m.lastMove = some ⟨(rotation n k w.target).1, (rotation n k w.target).2⟩) : m.rankOffset n = k := by
  simp only [Motion.rankOffset, h, hc, hl]
  exact moveOrigin_rotation hk ht

theorem startMove_due (target : Nat) : (s.startMove c target).due = s.due := rfl

/-! ## The OVERWEIGHT test (R30) -/

theorem testOverweight_same (h : (s.carousel c).overweightNow = (s.carousel c).balance.overweight) :
    s.testOverweight c = s := by simp [State.testOverweight, h]

theorem testOverweight_inner :
    (s.testOverweight c).inner = s.inner.modCarousel c fun y =>
      { y with balance := { y.balance with overweight := y.overweightNow } } := by
  by_cases h : (s.carousel c).overweightNow = (s.carousel c).balance.overweight
  · rw [testOverweight_same s c h]
    symm; apply modCarousel_id
    show ({ s.carousel c with balance := { (s.carousel c).balance with overweight := (s.carousel c).overweightNow } }
      : Carousel) = s.carousel c
    rw [h]
  · simp only [State.testOverweight, h, if_false, dueUnhold_inner, dueSelect_inner, postCarousel_inner,
      modCarousel_inner]
    apply modCarousel_congr
    rfl

theorem testOverweight_port :
    (s.testOverweight c).port q =
      if (s.carousel c).overweightNow ≠ (s.carousel c).balance.overweight ∧ stockPort = q then
        (s.port q).post (.carousel c (s.motion c).state (s.motion c).fault (s.motion c).hold
          (s.carousel c).overweightNow (s.carousel c).balance.peak)
      else s.port q := by
  unfold State.testOverweight
  by_cases h : (s.carousel c).overweightNow = (s.carousel c).balance.overweight
  · simp [h]
  · simp [h, postCarousel_eq, post_port, carouselNotice]; rfl

end Sys2Proof.Machine
end

