-- ==== Sys2Proof/Laws/Book.lean ====
section
/-! SUPPORT. Laws/Book.lean: one change of one bay (R8), said once: the carousel it leaves, the notice it posts and what
it makes due; and the freeing of a task. -/

namespace Sys2Proof.Machine

variable (s : State) (r : BayRef) (f : Bay → Bay)

/-! ## What each step reads and writes -/

theorem modCarrier_eq (c : CarouselId) (k : CarrierId) (g : Carrier → Carrier) :
    s.modCarrier c k g = s.modCarousel c fun x => { x with carriers := put x.carriers k (g (look x.carriers k)) } := rfl

theorem modBay_eq (g : Bay → Bay) :
    s.modBay r g = s.modCarousel r.carousel fun x =>
      { x with
        carriers := put x.carriers r.carrier
          { bays := put (look x.carriers r.carrier).bays r.bay (g (look (look x.carriers r.carrier).bays r.bay)),
            payload := (look x.carriers r.carrier).payload } } := rfl

@[simp] theorem modBay_inner (g : Bay → Bay) : (s.modBay r g).inner = s.inner.modBay r g := rfl
@[simp] theorem modBay_port (g : Bay → Bay) (q : PortId) : (s.modBay r g).port q = s.port q := rfl
@[simp] theorem modBay_due (g : Bay → Bay) : (s.modBay r g).due = s.due := rfl
@[simp] theorem modBay_task (g : Bay → Bay) (t : Ticket) : (s.modBay r g).task t = s.task t := rfl
@[simp] theorem modBay_lane (g : Bay → Bay) (l : LaneId) : (s.modBay r g).lane l = s.lane l := rfl
@[simp] theorem modBay_disc (g : Bay → Bay) (i : EntryId) : (s.modBay r g).disc i = s.disc i := rfl
@[simp] theorem modBay_motion (g : Bay → Bay) (c : CarouselId) : (s.modBay r g).motion c = s.motion c := by
  by_cases h : r.carousel = c
  · subst h; simp [modBay_eq, State.motion]
  · simp [modBay_eq, State.motion, h]

theorem bay_eq (q : BayRef) : s.bay q = look (look (s.carousel q.carousel).carriers q.carrier).bays q.bay := rfl

/-- A bay after one bay is written. -/
theorem modBay_bay (g : Bay → Bay) (q : BayRef) : (s.modBay r g).bay q = if q = r then g (s.bay q) else s.bay q := by
  by_cases hc : r.carousel = q.carousel
  · by_cases hk : r.carrier = q.carrier
    · by_cases hb : r.bay = q.bay
      · have : q = r := by cases q; cases r; simp_all
        subst this; simp [modBay_eq, bay_eq]
      · have : q ≠ r := fun e => hb (by rw [e])
        simp [modBay_eq, bay_eq, ← hc, ← hk, hb, this]
    · have : q ≠ r := fun e => hk (by rw [e])
      simp [modBay_eq, bay_eq, ← hc, hk, this]
  · have : q ≠ r := fun e => hc (by rw [e])
    simp [modBay_eq, bay_eq, hc, this]

/-! ## The half-profile (R27, R30) -/

@[simp] theorem shift_overweight (n k : Nat) (d : Int) (b : Balance) : (b.shift n k d).overweight = b.overweight := by
  rw [Balance.shift, Balance.rework]

/-- A change of a carrier's planned payload: the balance unit's whole effect on the carousel. -/
theorem balanceChange_inner (c : CarouselId) (k : CarrierId) (delta : Int) :
    (s.balanceChange c k delta).inner = s.inner.modCarousel c fun x =>
      { x with balance :=
          if delta = 0 then x.balance
          else { x.balance.shift x.cfg.n k.val delta with
                 overweight := decide (x.cfg.hardLimit < (x.balance.shift x.cfg.n k.val delta).peak) } } := by
  unfold State.balanceChange
  by_cases h : delta = 0
  · simp only [h, if_true]
    symm; apply modCarousel_id; rfl
  · simp only [h, if_false, testOverweight_inner, modCarousel_inner, modCarousel_modCarousel]
    rfl

/-! ## One change of one bay (R8) -/

theorem changeBay_inner : (s.changeBay r f).inner = (s.booked r f).inner := by
  rw [State.changeBay, modBay_inner, balanceChange_inner, modCarrier_eq, modCarousel_inner, modCarousel_modCarousel,
    modBay_eq, modCarousel_modCarousel, State.booked, modCarousel_inner]
  apply modCarousel_congr
  by_cases h : massChange (s.bay r) (f (s.bay r)) = 0
  · have h' := h
    simp only [massChange, bay_eq] at h'
    simp [Carousel.booked, Carrier.change, h', massChange, bay_eq]
  · have h' := h
    simp only [massChange, bay_eq] at h'
    simp [Carousel.booked, Carrier.change, h', massChange, bay_eq]
    rfl

theorem changeBay_carousel (c : CarouselId) :
    (s.changeBay r f).carousel c
      = if r.carousel = c then (s.carousel c).booked r.carrier r.bay f else s.carousel c := by
  have h : (s.changeBay r f).inner.carousel c = (s.booked r f).inner.carousel c := by rw [changeBay_inner]
  simp only [inner_carousel] at h
  rw [h, State.booked, modCarousel_carousel]
  split
  · next e => rw [e]
  · rfl

theorem changeBay_port (q : PortId) : (s.changeBay r f).port q = postsTo (s.bookPosts r f) q (s.port q) := by
  have key : ∀ x : Carousel, x.flips r.carrier r.bay f = true ↔
      massChange (look (look x.carriers r.carrier).bays r.bay) (f (look (look x.carriers r.carrier).bays r.bay)) ≠ 0
        ∧ decide (x.cfg.hardLimit < (x.balance.shift x.cfg.n r.carrier.val
            (massChange (look (look x.carriers r.carrier).bays r.bay)
              (f (look (look x.carriers r.carrier).bays r.bay)))).peak) ≠ x.balance.overweight := by
    intro x
    unfold Carousel.flips Carousel.booked massChange
    by_cases h0 : ((f (look (look x.carriers r.carrier).bays r.bay)).mass : Int)
        - ((look (look x.carriers r.carrier).bays r.bay).mass : Int) = 0
    · simp [h0]
    · simp [h0]
  rw [State.changeBay, modBay_port, State.bookPosts, State.balanceChange]
  by_cases h0 : massChange (s.bay r) (f (s.bay r)) = 0
  · have hf : (s.carousel r.carousel).flips r.carrier r.bay f = false := by
      rw [Bool.eq_false_iff]; intro h; exact ((key _).mp h).1 h0
    simp [h0, hf]; rfl
  · rw [if_neg h0, testOverweight_port]
    simp only [modCarousel_carousel_self, modCarousel_port, modCarrier_eq, shift_overweight, Carousel.overweightNow]
    by_cases h1 : decide ((s.carousel r.carousel).cfg.hardLimit < ((s.carousel r.carousel).balance.shift
        (s.carousel r.carousel).cfg.n r.carrier.val (massChange (s.bay r) (f (s.bay r)))).peak)
        = (s.carousel r.carousel).balance.overweight
    · have hf : (s.carousel r.carousel).flips r.carrier r.bay f = false := by
        rw [Bool.eq_false_iff]; intro h; exact ((key _).mp h).2 h1
      simp [h1, hf]
    · have hf : (s.carousel r.carousel).flips r.carrier r.bay f = true := (key _).mpr ⟨h0, h1⟩
      have hb : ((f (look (look (s.carousel r.carousel).carriers r.carrier).bays r.bay)).mass : Int)
        - ((look (look (s.carousel r.carousel).carriers r.carrier).bays r.bay).mass : Int) ≠ 0 := h0
      simp only [h1, hf, if_true, not_false_eq_true, true_and, ne_eq, postsTo_cons, postsTo_nil]
      simp [Carousel.booked, hb, State.motion]
      rfl

theorem changeBay_due :
    (s.changeBay r f).due =
      { s.due with
        select := s.due.select || (s.carousel r.carousel).flips r.carrier r.bay f,
        unhold := s.due.unhold || (s.carousel r.carousel).flips r.carrier r.bay f } := by
  rw [State.changeBay, modBay_due, State.balanceChange]
  have hold : (s.carousel r.carousel).flips r.carrier r.bay f
      = ((s.carousel r.carousel).booked r.carrier r.bay f).balance.overweight.xor
          (s.carousel r.carousel).balance.overweight := by
    unfold Carousel.flips; cases ((s.carousel r.carousel).booked r.carrier r.bay f).balance.overweight <;>
      cases (s.carousel r.carousel).balance.overweight <;> rfl
  by_cases h0 : massChange (s.bay r) (f (s.bay r)) = 0
  · have hb : ((f (look (look (s.carousel r.carousel).carriers r.carrier).bays r.bay)).mass : Int)
        - ((look (look (s.carousel r.carousel).carriers r.carrier).bays r.bay).mass : Int) = 0 := h0
    have hf : (s.carousel r.carousel).flips r.carrier r.bay f = false := by
      rw [hold]; simp [Carousel.booked, hb]
    simp [h0, hf]; rfl
  · have hb : ((f (look (look (s.carousel r.carousel).carriers r.carrier).bays r.bay)).mass : Int)
        - ((look (look (s.carousel r.carousel).carriers r.carrier).bays r.bay).mass : Int) ≠ 0 := h0
    rw [if_neg h0, hold]
    simp only [State.testOverweight, modCarousel_carousel_self, modCarrier_eq, shift_overweight,
      Carousel.overweightNow, Carousel.booked, hb, if_false]
    by_cases h1 : decide ((s.carousel r.carousel).cfg.hardLimit < ((s.carousel r.carousel).balance.shift
        (s.carousel r.carousel).cfg.n r.carrier.val (massChange (s.bay r) (f (s.bay r)))).peak)
        = (s.carousel r.carousel).balance.overweight
    · rw [if_pos h1]
      have h2 : decide ((s.carousel r.carousel).cfg.hardLimit < ((s.carousel r.carousel).balance.shift
        (s.carousel r.carousel).cfg.n r.carrier.val
          (((f (look (look (s.carousel r.carousel).carriers r.carrier).bays r.bay)).mass : Int)
        - ((look (look (s.carousel r.carousel).carriers r.carrier).bays r.bay).mass : Int))).peak)
        = (s.carousel r.carousel).balance.overweight := h1
      rw [h2]; simp
    · rw [if_neg h1]
      have h2 : decide ((s.carousel r.carousel).cfg.hardLimit < ((s.carousel r.carousel).balance.shift
        (s.carousel r.carousel).cfg.n r.carrier.val
          (((f (look (look (s.carousel r.carousel).carriers r.carrier).bays r.bay)).mass : Int)
        - ((look (look (s.carousel r.carousel).carriers r.carrier).bays r.bay).mass : Int))).peak)
        = !(s.carousel r.carousel).balance.overweight := by
          revert h1
          cases (s.carousel r.carousel).balance.overweight <;> intro h1
          · exact (Bool.eq_true_of_not_eq_false (fun h => h1 h))
          · exact (Bool.eq_false_iff.mpr (fun h => h1 h))
      rw [h2]; simp [State.dueSelect, State.dueUnhold]

@[simp] theorem changeBay_tasks : (s.changeBay r f).tasks = s.tasks := by
  have := congrArg State.tasks (changeBay_inner s r f); exact this
@[simp] theorem changeBay_lanes : (s.changeBay r f).lanes = s.lanes := by
  have := congrArg State.lanes (changeBay_inner s r f); exact this
@[simp] theorem changeBay_discs : (s.changeBay r f).discs = s.discs := by
  have := congrArg State.discs (changeBay_inner s r f); exact this
@[simp] theorem changeBay_discOrder : (s.changeBay r f).discOrder = s.discOrder := by
  have := congrArg State.discOrder (changeBay_inner s r f); exact this
@[simp] theorem changeBay_globals : (s.changeBay r f).globals = s.globals := by
  have := congrArg State.globals (changeBay_inner s r f); exact this
@[simp] theorem changeBay_stamp : (s.changeBay r f).stamp = s.stamp := by
  have := congrArg State.stamp (changeBay_inner s r f); exact this
@[simp] theorem changeBay_nextTicket : (s.changeBay r f).nextTicket = s.nextTicket := by
  have := congrArg State.nextTicket (changeBay_inner s r f); exact this
@[simp] theorem changeBay_starved : (s.changeBay r f).starved = s.starved := by
  have := congrArg State.starved (changeBay_inner s r f); exact this
@[simp] theorem changeBay_part : (s.changeBay r f).part = s.part := by
  have := congrArg State.part (changeBay_inner s r f); exact this
@[simp] theorem changeBay_pending : (s.changeBay r f).pending = s.pending := by
  have := congrArg State.pending (changeBay_inner s r f); exact this
@[simp] theorem changeBay_task (t : Ticket) : (s.changeBay r f).task t = s.task t := by
  simp [State.task]
@[simp] theorem changeBay_lane (l : LaneId) : (s.changeBay r f).lane l = s.lane l := by
  simp [State.lane]
@[simp] theorem changeBay_disc (i : EntryId) : (s.changeBay r f).disc i = s.disc i := by
  simp [State.disc]

/-- Motion record, items, calls, face, phase and sweep stay through a change of a bay. -/
theorem changeBay_rest (c : CarouselId) :
    ((s.changeBay r f).carousel c).motion = (s.carousel c).motion
      ∧ ((s.changeBay r f).carousel c).cfg = (s.carousel c).cfg
      ∧ ((s.changeBay r f).carousel c).calls = (s.carousel c).calls
      ∧ ((s.changeBay r f).carousel c).face = (s.carousel c).face
      ∧ ((s.changeBay r f).carousel c).phase = (s.carousel c).phase
      ∧ ((s.changeBay r f).carousel c).sweep = (s.carousel c).sweep
      ∧ ((s.changeBay r f).carousel c).guardLine = (s.carousel c).guardLine := by
  rw [changeBay_carousel]
  split <;> simp [Carousel.booked]

/-- Each bay after one change of one bay (R8, R12). -/
theorem changeBay_bay (q : BayRef) :
    (s.changeBay r f).bay q = if q = r then (f (s.bay r)).settleEmpty else s.bay q := by
  rw [bay_eq, changeBay_carousel]
  by_cases hc : r.carousel = q.carousel
  · rw [if_pos hc]
    by_cases hk : r.carrier = q.carrier
    · by_cases hb : r.bay = q.bay
      · have : q = r := by cases q; cases r; simp_all
        subst this; simp [Carousel.booked, bay_eq]
      · have : q ≠ r := fun e => hb (by rw [e])
        simp [Carousel.booked, ← hk, hb, this, bay_eq]
    · have : q ≠ r := fun e => hk (by rw [e])
      simp [Carousel.booked, hk, this, bay_eq]
  · have : q ≠ r := fun e => hc (by rw [e])
    simp [hc, this, bay_eq]

/-! ## Freeing a task (R62, R78) -/

/-- A task whose carrier has no call is freed without touching any queue. -/
theorem freeTask_presented (t : Ticket) (x : Task) (h : s.task t = some x)
    (hc : (s.carousel x.bay.carousel).callFor x.bay.carrier = none) :
    s.freeTask t = (s.setTask t none).dueFreed := by
  simp only [State.freeTask, h, State.pruneCall]
  have : (((s.setTask t none).dueFreed).carousel x.bay.carousel).callFor x.bay.carrier = none := hc
  rw [this]

end Sys2Proof.Machine
end

