-- ==== Sys2Proof/Laws/PerInstr.lean ====
section
/-! SUPPORT. Laws/PerInstr.lean: a law said of every command: a request's code byte names that request again
(Table 11-2), and the payload of a well-formed request fits a frame's length byte (R150); an event carries no frame. -/

namespace Sys2Proof.Laws.Carried

/-- What a command's frame is: its code byte reads back, and a well-formed payload fits a frame (R150, Table 11-2). -/
def Statement (i : Instr) : Prop :=
  ∀ h code payload, i.request? = some (h, code, payload) →
    RequestCode.ofByte code.byte = some code ∧ (i.wellFormed = true → payload.length ≤ Config.maxPayload)

/-- A request whose payload always fits. -/
theorem of_short (i : Instr) (h : Header) (code : RequestCode) (payload : List Byte)
    (hi : i.request? = some (h, code, payload)) (hc : RequestCode.ofByte code.byte = some code)
    (hl : payload.length ≤ Config.maxPayload) : Statement i := by
  intro h' code' payload' e
  rw [hi] at e
  cases e
  exact ⟨hc, fun _ => hl⟩

/-- An event has no frame of its own. -/
theorem of_event (i : Instr) (hi : i.request? = none) : Statement i := by
  intro h code payload e
  rw [hi] at e
  cases e

theorem configure (h : Header) (item index : Byte) (value : BitVec 32) :
    Statement (.configure h item index value) :=
  of_short _ h .configure _ rfl rfl (Nat.le_of_ble_eq_true rfl)

theorem enrol (h : Header) (carousel : Byte) : Statement (.enrol h carousel) :=
  of_short _ h .enrol _ rfl rfl (Nat.le_of_ble_eq_true rfl)

theorem withdraw (h : Header) (carousel : Byte) : Statement (.withdraw h carousel) :=
  of_short _ h .withdraw _ rfl rfl (Nat.le_of_ble_eq_true rfl)

theorem hold (h : Header) (carousel on : Byte) : Statement (.hold h carousel on) :=
  of_short _ h .hold _ rfl rfl (Nat.le_of_ble_eq_true rfl)

theorem readStatus (h : Header) : Statement (.readStatus h) :=
  of_short _ h .readStatus _ rfl rfl (Nat.le_of_ble_eq_true rfl)

theorem restart (h : Header) : Statement (.restart h) :=
  of_short _ h .restart _ rfl rfl (Nat.le_of_ble_eq_true rfl)

theorem readCarousel (h : Header) (carousel : Byte) : Statement (.readCarousel h carousel) :=
  of_short _ h .readCarousel _ rfl rfl (Nat.le_of_ble_eq_true rfl)

theorem loadBay (h : Header) (carousel carrier bay : Byte) (article : BitVec 24) (week unitMass width : BitVec 16)
    (count : Byte) :
    Statement (.loadBay h carousel carrier bay article week unitMass width count) :=
  of_short _ h .loadBay _ rfl rfl (Nat.le_of_ble_eq_true rfl)

theorem readBay (h : Header) (carousel carrier bay : Byte) : Statement (.readBay h carousel carrier bay) :=
  of_short _ h .readBay _ rfl rfl (Nat.le_of_ble_eq_true rfl)

theorem readCarrier (h : Header) (carousel carrier : Byte) : Statement (.readCarrier h carousel carrier) :=
  of_short _ h .readCarrier _ rfl rfl (Nat.le_of_ble_eq_true rfl)

theorem findLots (h : Header) (article : BitVec 24) : Statement (.findLots h article) :=
  of_short _ h .findLots _ rfl rfl (Nat.le_of_ble_eq_true rfl)

theorem putRequest (h : Header) (article : BitVec 24) (week : BitVec 16) (count : Byte) (unitMass width : BitVec 16)
    (preferred : Byte) :
    Statement (.putRequest h article week count unitMass width preferred) :=
  of_short _ h .putRequest _ rfl rfl (Nat.le_of_ble_eq_true rfl)

theorem putCancel (h : Header) (ticket : Byte) : Statement (.putCancel h ticket) :=
  of_short _ h .putCancel _ rfl rfl (Nat.le_of_ble_eq_true rfl)

theorem orderOpen (h : Header) (lane : Byte) (ref : BitVec 32) (urgent : Byte) :
    Statement (.orderOpen h lane ref urgent) :=
  of_short _ h .orderOpen _ rfl rfl (Nat.le_of_ble_eq_true rfl)

theorem flatMap_length (lines : List LineField) : (lines.flatMap LineField.bytes).length = 7 * lines.length := by
  induction lines with
  | nil => rfl
  | cons x rest ih =>
    simp only [List.flatMap_cons, List.length_append, ih, List.length_cons, LineField.bytes, field, bytesOf,
      List.length_nil]
    omega

theorem orderLines (h : Header) (lane final : Byte) (lines : List LineField) :
    Statement (.orderLines h lane final lines) := by
  intro h' code payload e
  cases e
  refine ⟨rfl, fun hw => ?_⟩
  have : 3 + 7 * lines.length ≤ Config.maxPayload := by simpa [Instr.wellFormed, linesFit] using hw
  have hl : (lines.flatMap LineField.bytes).length = 7 * lines.length := flatMap_length lines
  simp only [orderLinesPayload, List.length_append, hl, List.length_cons, List.length_nil]
  omega

theorem orderCancel (h : Header) (lane : Byte) : Statement (.orderCancel h lane) :=
  of_short _ h .orderCancel _ rfl rfl (Nat.le_of_ble_eq_true rfl)

theorem readLane (h : Header) (lane part : Byte) : Statement (.readLane h lane part) :=
  of_short _ h .readLane _ rfl rfl (Nat.le_of_ble_eq_true rfl)

theorem auditCarrier (h : Header) (carousel carrier mode : Byte) :
    Statement (.auditCarrier h carousel carrier mode) :=
  of_short _ h .auditCarrier _ rfl rfl (Nat.le_of_ble_eq_true rfl)

theorem auditSweep (h : Header) (carousel first n repetition interleave mode : Byte) :
    Statement (.auditSweep h carousel first n repetition interleave mode) :=
  of_short _ h .auditSweep _ rfl rfl (Nat.le_of_ble_eq_true rfl)

theorem auditStop (h : Header) (carousel : Byte) : Statement (.auditStop h carousel) :=
  of_short _ h .auditStop _ rfl rfl (Nat.le_of_ble_eq_true rfl)

theorem readDiscrepancy (h : Header) (id : Byte) : Statement (.readDiscrepancy h id) :=
  of_short _ h .readDiscrepancy _ rfl rfl (Nat.le_of_ble_eq_true rfl)

theorem discAck (h : Header) (id : Byte) : Statement (.discAck h id) :=
  of_short _ h .discAck _ rfl rfl (Nat.le_of_ble_eq_true rfl)

theorem resolve (h : Header) (id decision : Byte) (article : BitVec 24) (week unitMass width : BitVec 16) :
    Statement (.resolve h id decision article week unitMass width) :=
  of_short _ h .resolve _ rfl rfl (Nat.le_of_ble_eq_true rfl)

theorem pickConfirm (h : Header) (ticket k : Byte) : Statement (.pickConfirm h ticket k) :=
  of_short _ h .pickConfirm _ rfl rfl (Nat.le_of_ble_eq_true rfl)

theorem putConfirm (h : Header) (ticket j : Byte) : Statement (.putConfirm h ticket j) :=
  of_short _ h .putConfirm _ rfl rfl (Nat.le_of_ble_eq_true rfl)

theorem auditCount (h : Header) (carousel bay counted : Byte) :
    Statement (.auditCount h carousel bay counted) :=
  of_short _ h .auditCount _ rfl rfl (Nat.le_of_ble_eq_true rfl)

theorem faceRelease (h : Header) (carousel carrier : Byte) : Statement (.faceRelease h carousel carrier) :=
  of_short _ h .faceRelease _ rfl rfl (Nat.le_of_ble_eq_true rfl)

theorem resume (h : Header) (carousel : Byte) : Statement (.resume h carousel) :=
  of_short _ h .resume _ rfl rfl (Nat.le_of_ble_eq_true rfl)

theorem readFace (h : Header) (carousel first : Byte) : Statement (.readFace h carousel first) :=
  of_short _ h .readFace _ rfl rfl (Nat.le_of_ble_eq_true rfl)

theorem position (h : Header) (offset : Byte) : Statement (.position h offset) :=
  of_short _ h .position _ rfl rfl (Nat.le_of_ble_eq_true rfl)

theorem arrived (h : Header) (offset : Byte) : Statement (.arrived h offset) :=
  of_short _ h .arrived _ rfl rfl (Nat.le_of_ble_eq_true rfl)

theorem stopped (h : Header) (offset : Byte) : Statement (.stopped h offset) :=
  of_short _ h .stopped _ rfl rfl (Nat.le_of_ble_eq_true rfl)

theorem fault (h : Header) (cause : Byte) : Statement (.fault h cause) :=
  of_short _ h .fault _ rfl rfl (Nat.le_of_ble_eq_true rfl)

theorem ready (h : Header) : Statement (.ready h) :=
  of_short _ h .ready _ rfl rfl (Nat.le_of_ble_eq_true rfl)

theorem arrival (h : Header) (lane : Byte) (article : BitVec 24) (week : BitVec 16) :
    Statement (.arrival h lane article week) :=
  of_short _ h .arrival _ rfl rfl (Nat.le_of_ble_eq_true rfl)

theorem laneRelease (h : Header) (lane : Byte) : Statement (.laneRelease h lane) :=
  of_short _ h .laneRelease _ rfl rfl (Nat.le_of_ble_eq_true rfl)

theorem laneEmpty (h : Header) (lane : Byte) : Statement (.laneEmpty h lane) :=
  of_short _ h .laneEmpty _ rfl rfl (Nat.le_of_ble_eq_true rfl)

theorem strayClear (h : Header) (lane n : Byte) : Statement (.strayClear h lane n) :=
  of_short _ h .strayClear _ rfl rfl (Nat.le_of_ble_eq_true rfl)

theorem guardChange (carousel : CarouselId) (level : GuardLevel) :
    Statement (.guardChange carousel level) := of_event _ rfl

theorem restartInput : Statement .restartInput := of_event _ rfl

theorem restartInputRelease : Statement .restartInputRelease := of_event _ rfl

theorem warmRestart : Statement .warmRestart := of_event _ rfl

theorem powerOn : Statement .powerOn := of_event _ rfl

theorem frameReceived (port : PortId) (ending : FrameEnd) : Statement (.frameReceived port ending) := of_event _ rfl

theorem frameGapExpiry (port : PortId) : Statement (.frameGapExpiry port) := of_event _ rfl

theorem frameSent (port : PortId) : Statement (.frameSent port) := of_event _ rfl

theorem holdInput (port : PortId) (asserted : Bool) : Statement (.holdInput port asserted) := of_event _ rfl

theorem orderOpenTimerExpiry (lane : LaneId) : Statement (.orderOpenTimerExpiry lane) := of_event _ rfl

theorem moveTimerExpiry (carousel : CarouselId) : Statement (.moveTimerExpiry carousel) := of_event _ rfl

theorem stopTimerExpiry (carousel : CarouselId) : Statement (.stopTimerExpiry carousel) := of_event _ rfl

theorem characterReceived (port : PortId) (value : Byte) (parityError framingError : Bool) :
    Statement (.characterReceived port value parityError framingError) := of_event _ rfl

theorem powerOnReset : Statement .powerOnReset := of_event _ rfl

end Sys2Proof.Laws.Carried
end

