-- ==== Sys2Proof/Tests/Slice0.lean ====
section
/-! SUPPORT. Tests/Slice0.lean: small tests. Expected values come from the worked cases and tables of spec/, or from hand
calculation with its rules. Then a witness for the hypotheses of each statement. -/

namespace Sys2Proof.Tests

open Sys2Proof Sys2Proof.Machine

set_option Elab.async false

/-! ## Helpers -/

/-- What is read from the state a command leaves. -/
def after {α : Type} (i : Instr) (s : State) (g : State → α) : Option α :=
  match exec i s with
  | .next t => some (g t)
  | .fault _ => none
  | .refused _ => none

/-- The frame a port is sending. -/
def onLine (p : PortId) (s : State) : Option Frame := (s.port p).sending.map Outgoing.frame

/-- The balance of Table 2-3 before a put. -/
def small : Balance :=
  { entries := [(0, -220), (1, -620), (2, -1380), (3, 1020)].foldl (fun v p => put v (Fin.ofNat 20 p.1) p.2)
      (Vector.replicate 20 0),
    peak := 1380, peakOffset := 2, overweight := false }

/-- The planned payloads of Table 2-2. -/
def smallCarriers : Vector Carrier 40 :=
  [(0, 400), (2, 760), (3, 200), (5, 1200), (6, 380)].foldl
    (fun v p => put v (Fin.ofNat 40 p.1) { Carrier.empty with payload := p.2 }) (Vector.replicate 40 Carrier.empty)

/-! ## Well-formedness: an ill-formed term for each check -/

def line1 : LineField := ⟨1, 1, 1, 0⟩

theorem test_wf_lines_14 : (Instr.orderLines ⟨0, 0⟩ 0 0 (List.replicate 14 line1)).wellFormed = false := by decide
theorem test_wf_lines_13 : (Instr.orderLines ⟨0, 0⟩ 0 0 (List.replicate 13 line1)).wellFormed = true := by decide
theorem test_wf_payload_99 :
    (Instr.frameReceived 0 (.good ⟨1, 0, List.replicate 99 0⟩)).wellFormed = false := by decide
theorem test_wf_payload_98 : (Instr.frameReceived 0 (.good ⟨1, 0, List.replicate 98 0⟩)).wellFormed = true := by decide

/-! ## Tables of the manual -/

/-- Table 1-3. -/
theorem test_stack_limits : (stackLimit 900 100, stackLimit 900 205, stackLimit 900 265, stackLimit 900 500,
    stackLimit 1500 100) = (9, 4, 3, 1, 15) := by decide

/-- "The life of one bay": headroom 35 for unit mass 95 above a payload of 660. -/
theorem test_headroom : headroom 4000 660 95 = 35 := by decide

/-- Table 2-3, from the payloads of Table 2-2. -/
theorem test_profile_from_definition :
    (Balance.zero.rebuild 8 smallCarriers).entries = small.entries
      ∧ (Balance.zero.rebuild 8 smallCarriers).peak = 1380
      ∧ (Balance.zero.rebuild 8 smallCarriers).peakOffset = 2 := by decide +kernel

/-- Table 2-7: Δ = 380 on carrier 7. -/
theorem test_profile_update : (halfOffsets 8).map (look (small.shift 8 7 380).entries) = [-600, -240, -1000, 1400]
    ∧ (small.shift 8 7 380).peak = 1400 ∧ (small.shift 8 7 380).peakOffset = 3 := by decide +kernel

/-- Table 2-6: one tyre of 95 on carrier 3, four on carrier 7. -/
theorem test_placeable : placeable 8 3 small.entries 95 1500 4 = some (1, 1475)
    ∧ placeable 8 7 small.entries 95 1500 4 = some (4, 1400) := by decide +kernel

/-- Table 2-8: the counts that pass begin at 4. -/
theorem test_placeable_above : placeable 8 1 (small.shift 8 7 380).entries 120 1000 4 = some (4, 920)
    ∧ placeable 8 1 (small.shift 8 7 380).entries 120 1000 3 = none := by decide +kernel

/-- Table 2-5. -/
theorem test_distances : rotation 8 0 (targetOffset 8 0) = (.forward, 0) ∧ rotation 8 0 (targetOffset 8 7) = (.forward, 1)
    ∧ rotation 8 0 (targetOffset 8 4) = (.forward, 4) ∧ rotation 8 0 (targetOffset 8 3) = (.backward, 3) := by decide

/-- Table 10-5: the last group's rate and character time, in microseconds, under each pair of straps. -/
theorem test_bit_rates :
    (([(false, false), (true, false), (false, true), (true, true)] : List (Bool × Bool)).map fun p =>
      let s := ({ State.reset with straps := put State.reset.straps 3 ⟨p.1, p.2⟩ }).powerOn
      ((s.bitRate 9).bitsPerSecond, (s.characterTime 11 + 500) / 1000, (s.bitRate 8).bitsPerSecond))
    = [(19200, 573, 19200), (38400, 286, 19200), (57600, 191, 19200), (115200, 95, 19200)] := by decide +kernel

/-- Chapter 11, "one confirmation on the wire": length 4, code 20h, tag 3Fh, ticket 23, k = 2. -/
theorem test_wire_pick_confirm :
    (Instr.pickConfirm ⟨2, 0x3F⟩ 23 2).request?.map (fun r => Frame.covered ⟨r.2.1.byte, r.1.tag, r.2.2⟩)
      = some [0x04, 0x20, 0x3F, 0x17, 0x02] := by decide

/-- The CRC of the digits "123456789" from FFFFh is 29B1h (the check value of R150's polynomial; PRESUMED, public). -/
theorem test_crc_check : crc [0x31, 0x32, 0x33, 0x34, 0x35, 0x36, 0x37, 0x38, 0x39] = 0x29B1 := by
  decide +kernel

/-- Chapter 11: GAP and OVERRUN waiting give 98h. -/
theorem test_status_byte : PortFlags.byte { gap := true, overrun := true } = 0x98 := by decide

/-- Table 11-2 by code byte: the first, the last, and one the table does not hold. -/
theorem test_codes : RequestCode.ofByte 0x01 = some .configure ∧ RequestCode.ofByte 0x3B = some .strayClear
    ∧ RequestCode.ofByte 0x0E = none := by decide

/-- No row has bits, so no word spells a command. -/
theorem test_table_word : decodeTableWord 8 0x20 = none := rfl

/-- Older by the wrapped difference ("Stamps and age"). -/
theorem test_stamp_order : stampOlder 0xFFFFFFFF 0 = true ∧ stampOlder 0 0xFFFFFFFF = false := by
  constructor <;> rfl

/-! ## One command each -/

/-- ENROL from reset (R98): DONE, UNSYNCED. -/
theorem test_enrol : after (.enrol ⟨0, 9⟩ 0) State.reset (fun t => ((t.motion 0).state, onLine 0 t))
    = some (.unsynced, some ⟨0xC5, 0, [0, 1, 0, 0, 0, 0, 0]⟩) := by decide +kernel

/-- HOLD of a carousel that does not exist (R154 check 4): BAD_FORM 12h, nothing changes. -/
theorem test_hold_bad_form : after (.hold ⟨0, 9⟩ 6 1) State.reset (onLine 0)
    = some (some ⟨0x84, 9, [0x12, 0]⟩) := by decide +kernel

/-- PICK_CONFIRM on the stock computer's port (R154 check 1): DENIED_ROLE 11h. -/
theorem test_denied_role : after (.pickConfirm ⟨0, 9⟩ 1 1) State.reset (onLine 0)
    = some (some ⟨0xA0, 9, [0x11, 0]⟩) := by decide +kernel

/-- CONFIGURE of an odd carrier count (R159): BAD_RANGE 13h. -/
theorem test_configure_odd : after (.configure ⟨0, 9⟩ 0x01 0 21) State.reset
    (fun t => (onLine 0 t, (t.carousel 0).cfg.n)) = some (some ⟨0x81, 9, [0x13, 0]⟩, 20) := by decide +kernel

/-- ORDER_OPEN from reset (R53): OPEN with the timer at 1200. -/
theorem test_order_open : after (.orderOpen ⟨0, 9⟩ 31 0xDEADBEEF 1) State.reset
    (fun t => ((t.lane 31).state, (t.lane 31).timer, onLine 0 t))
    = some (.opened, some 1200, some ⟨0x90, 9, [0, 0]⟩) := by decide +kernel

/-- LOAD_BAY from reset, "a load refused and retaken": three tyres of 240 in an empty carrier make 720. -/
theorem test_load_bay : after (.loadBay ⟨0, 9⟩ 3 2 2 265070 1804 240 265 3) State.reset
    (fun t => ((t.bay ⟨3, 2, 2⟩).count, (t.carrier 3 2).payload, look (t.carousel 3).balance.entries 0))
    = some (3, 720, 720) := by decide +kernel

/-- An arrival at a FREE lane is a stray (R124). -/
theorem test_stray : after (.arrival ⟨11, 1⟩ 4 185061 1800) State.reset
    (fun t => ((t.lane 4).strays, onLine 0 t))
    = some (1, some ⟨0xC7, 0, [4, 0x02, 0xD2, 0xE5, 0x07, 0x08, 1, 0]⟩) := by decide +kernel

/-- "A guard stop and a resume": the guard opens in MOVING; STOP is posted, the stop timer holds 20. -/
theorem test_guard_stop :
    after (.guardChange 2 .opened) (State.reset.modMotion 2 fun m =>
        { m with state := .moving, held := some 0, chosen := some ⟨13, 7⟩, lastMove := some ⟨.forward, 7⟩,
                 moveTimer := some 125 })
      (fun t => ((t.motion 2).state, (t.motion 2).moveTimer, (t.motion 2).stopTimer, onLine 7 t))
      = some (.stopping, none, some 20, some ⟨0xE1, 0, []⟩) := by decide +kernel

/-- The same case: RESUME from offset 4 goes forward 3 with a move timer of 65. -/
theorem test_resume :
    after (.resume ⟨2, 5⟩ 2) (State.reset.modMotion 2 fun m =>
        { m with state := .suspended, held := some 4, chosen := some ⟨13, 7⟩, lastMove := some ⟨.forward, 7⟩ })
      (fun t => ((t.motion 2).lastMove, (t.motion 2).moveTimer, onLine 7 t))
      = some (some ⟨.forward, 3⟩, some 65, some ⟨0xE0, 0, [7, 0, 3]⟩) := by decide +kernel

/-- A character that is not a clean mark is ignored (R151). -/
theorem test_hunting : after (.characterReceived 3 0xA4 false false) State.reset (fun t => (t.port 3).receiver)
    = some .hunting := by decide +kernel

/-- The front command runs on the state with the queue's rest. -/
theorem test_step_queue :
    step { State.reset with pending := [.orderOpen ⟨0, 9⟩ 0 1 0, .powerOnReset] }
      = exec (.orderOpen ⟨0, 9⟩ 0 1 0) { State.reset with pending := [.powerOnReset] } := rfl

/-- "Selection and the age limit", Table 5-3: carrier 7 is chosen and the older eligible calls are passed over. -/
def queue5 : State :=
  let pick (k : CarrierId) (n : Stamp) : Task := ⟨.pick, ⟨1, k, 0⟩, 1, some ⟨0, 0, none, false⟩, n, .queued⟩
  ((((State.reset.modCarousel 1 fun x =>
    { x with cfg := { x.cfg with n := 8 }, motion := { x.motion with state := .idle, held := some 0 },
             calls := [⟨2, 480, 7, some (Scope.whole .carrier .adjust false), false⟩, ⟨5, 490, 0, none, false⟩,
               ⟨3, 500, 0, none, false⟩, ⟨7, 510, 0, none, false⟩] }).setTask 0
      (some ⟨.put, ⟨1, 5, 0⟩, 1, none, 490, .queued⟩)).setTask 1 (some (pick 3 500))).setTask 2 (some (pick 7 510)))

theorem test_selection : (queue5.choose? 1).map (fun r => (r.call.carrier, r.rank, r.steps)) = some (7, 2, 1)
    ∧ ((queue5.select 1).carousel 1).calls.map Call.passes = [8, 1, 1, 0]
    ∧ (queue5.select 1).motion 1 = { (queue5.motion 1) with state := .waitPermit, chosen := some ⟨7, 1⟩ } := by
  decide +kernel

/-- "A cancelled lane drained", Table 7-4: the first ARRIVAL of 185060 in lane 20. -/
def lane20 : State :=
  State.reset.modLane 20 fun x =>
    { x with state := .cancelling,
             order := some ⟨7, false, [⟨185060, 4, 1, none, false, .unmatched ⟨1, 0, 2, 1⟩⟩], some 0⟩ }

theorem test_drain : after (.arrival ⟨11, 1⟩ 20 185060 1800) lane20
    (fun t => ((t.lane 20).state, (t.lane 20).lines.map Line.tyres, onLine 11 t))
    = some (.cancelling, [⟨1, 0, 1, 2⟩], some ⟨0xB8, 1, [0, 0, 0, 0xFF, 0]⟩) := by decide +kernel

/-- "A put clamped, completed and drawn on", first request: two tyres into C0, carrier 5, B1, DONE_CLAMPED. -/
def store3 : State :=
  let lot : Lot := ⟨225550, 1806, 105, 225⟩
  let x : Carousel := State.reset.carousel 0
  let carriers := put (put (put x.carriers 1 { Carrier.empty with payload := 420 }) 4
    { Carrier.empty with payload := 300 }) 5
    { bays := put Carrier.empty.bays 1 { Bay.empty with lot := some lot, count := 2 }, payload := 210 }
  { (State.reset.modCarousel 0 fun y =>
      { y with cfg := { y.cfg with n := 8, putLimit := 1500, hardLimit := 2000 },
               motion := { y.motion with state := .idle, held := some 0 }, carriers := carriers,
               balance := Balance.zero.rebuild 8 carriers }) with nextTicket := 12 }

theorem test_put_clamped : after (.putRequest ⟨0, 3⟩ 225550 1806 6 105 225 1) store3
    (fun t => (onLine 0 t, (t.bay ⟨0, 5, 1⟩).incoming, (t.carrier 0 5).payload,
      (halfOffsets 8).map (look (t.carousel 0).balance.entries)))
    = some (some ⟨0x8C, 3, [1, 0, 12, 0, 5, 1, 2]⟩, 2, 420, [-300, -300, -300, -300]) := by decide +kernel

/-! ## Witnesses: states and operands that meet the hypotheses of the statements, clause by clause

Each theorem `test_witness_<Name>` is for the statement `Obligations.<Name>`. -/

theorem ready_reset (p : PortId) : State.reset.readyFor p := by
  refine ⟨rfl, ?_, ?_, ?_⟩ <;> revert p <;> decide +kernel

/-- C0 in a motion state, held offset 19 of 20, with the station S0 of reset. -/
def at0 (x : MotionState) (held : Option Nat := some 19) : State :=
  State.reset.modMotion 0 fun m => { m with state := x, held := held }

theorem at0_ready (x : MotionState) (held : Option Nat) (p : PortId) : (at0 x held).readyFor p := ready_reset p

/-- C0 on a move to offset 19, or stopped short of it at offset `held`. -/
def move0 (x : MotionState) (held : Nat) : State :=
  (at0 x (some held)).modMotion 0 fun m =>
    { m with chosen := some ⟨1, 19⟩, lastMove := some ⟨.forward, 19⟩, moveTimer := some 5, stopTimer := some 5 }

theorem move0_ready (x : MotionState) (held : Nat) (p : PortId) : (move0 x held).readyFor p := ready_reset p

theorem test_witness_EnrolAndReadyTakeACarouselToUnsynced :
    (∀ x p, (at0 x).readyFor p) ∧ (((at0 .offline).motion 0).state = .offline ∧ ((at0 .withdrawn).motion 0).state = .withdrawn
      ∧ ((at0 .offline).carousel 0).cfg.station ≠ none ∧ ((at0 .faulted).motion 0).state = .faulted
      ∧ ((at0 .idle).motion 0).state = .idle ∧ 5 < (6 : Byte).toNat) :=
  ⟨fun x p => at0_ready x _ p, by decide +kernel⟩

theorem test_witness_HoldSetsTheFlagInEveryState :
    (at0 .waitPermit).readyFor stockPort ∧ ((at0 .waitPermit).motion 0).state = .waitPermit :=
  ⟨at0_ready .., by decide +kernel⟩

/-- Offsets 20 (out of range) and 19 (the last), in each group of motion states. -/
theorem test_witness_PositionIsTakenByMotionState :
    (∀ x k, (at0 x k).readyFor (drivePort 0))
      ∧ (((at0 .idle).carousel 0).cfg.n ≤ 20 ∧ ((at0 .idle).motion 0).state ∉ [MotionState.offline, .faulted, .withdrawn]
        ∧ 19 < ((at0 .offline).carousel 0).cfg.n ∧ ((at0 .offline).motion 0).state ∈ [MotionState.offline, .faulted, .withdrawn]
        ∧ ((at0 .unsynced none).motion 0).state = .unsynced ∧ ((at0 .stopping).motion 0).state ∈ [MotionState.moving, .stopping]
        ∧ ((at0 .idle).motion 0).held = some 19 ∧ ((at0 .idle (some 0)).motion 0).held ≠ some 19
        ∧ ((at0 .idle (some 0)).carousel 0).face = none) :=
  ⟨fun x k => at0_ready x k _, by decide +kernel⟩

/-- Offset 19 of 20: at the target of a move, and 18 off it. -/
theorem test_witness_StoppedAndArrivedEndTheTurning :
    (∀ x k, (move0 x k).readyFor (drivePort 0))
      ∧ (19 < ((move0 .stopping 0).carousel 0).cfg.n ∧ ((move0 .stopping 0).motion 0).state = .stopping
        ∧ ((move0 .idle 0).motion 0).state ∉ [MotionState.moving, .stopping]
        ∧ ((move0 .moving 0).motion 0).state ∈ [MotionState.moving, .stopping]
        ∧ ((move0 .moving 0).motion 0).chosen = some ⟨1, 19⟩ ∧ (⟨1, 19⟩ : Choice).target = 19
        ∧ (⟨1, 19⟩ : Choice).target ≠ 18) :=
  ⟨fun x k => move0_ready x k _, by decide +kernel⟩

/-- Causes 1 and 15, in a state of each branch. -/
theorem test_witness_FaultIsTakenByMotionState :
    (∀ x k, (move0 x k).readyFor (drivePort 0)) ∧ (1 ≤ 1 ∧ 15 ≤ 15 ∧ ((move0 .offline 0).motion 0).state = .offline
      ∧ ((move0 .presenting 0).motion 0).state = .presenting ∧ ((move0 .faulted 0).motion 0).state = .faulted
      ∧ ((move0 .suspended 0).motion 0).state = .suspended) :=
  ⟨fun x k => move0_ready x k _, by decide +kernel⟩

/-- RESUME one step short of the target, at the target, and in a state that refuses it. -/
theorem test_witness_ResumeWorksTheMoveAgain :
    (∀ x k st, (move0 x k).readyFor (stationPort st))
      ∧ (5 < (6 : Byte).toNat ∧ ((move0 .suspended 18).carousel 0).cfg.station ≠ some 1 ∧ ((move0 .suspended 18).carousel 0).cfg.station = some 0 ∧ ((move0 .idle 18).motion 0).state ≠ .suspended
        ∧ ((move0 .suspended 18).motion 0).state = .suspended ∧ ((move0 .suspended 18).motion 0).guardLatch = .closed
        ∧ ((move0 .suspended 18).motion 0).chosen = some ⟨1, 19⟩ ∧ ((move0 .suspended 18).motion 0).held = some 18
        ∧ 0 < (rotation 20 18 19).2 ∧ ((move0 .suspended 19).motion 0).held = some 19 ∧ (rotation 20 19 19).2 = 0) :=
  ⟨fun x k _ => move0_ready x k _, by decide +kernel⟩

/-- A guard line in each clause, the base time 0 among them, and both timers. -/
def guard0 (x : MotionState) (level : GuardLevel) (base : Nat) : State :=
  { State.reset.modMotion 0 (fun m => { m with state := x, guardLatch := level, moveTimer := some 1 }) with
    globals := { Globals.default with profiles := Vector.replicate 4 ⟨base, 15⟩ } }

theorem test_witness_GuardsAndTimersStopAMove :
    (guard0 .moving .closed 1).part ≠ .halted ∧ ((guard0 .moving .closed 1).motion 0).stopTimer ≠ some 0
      ∧ ((guard0 .idle .opened 1).motion 0).guardLatch = .opened ∧ ((guard0 .idle .closed 1).motion 0).guardLatch = .closed
      ∧ ((guard0 .idle .closed 1).motion 0).state ≠ .moving ∧ ((guard0 .moving .closed 1).motion 0).state = .moving
      ∧ 0 < (look (guard0 .moving .closed 1).globals.profiles ((guard0 .moving .closed 1).carousel 0).cfg.profile).baseTime
      ∧ (look (guard0 .moving .closed 0).globals.profiles ((guard0 .moving .closed 0).carousel 0).cfg.profile).baseTime = 0
      ∧ ((guard0 .moving .closed 0).motion 0).moveTimer = some 1
      ∧ ((move0 .stopping 0).motion 0).state = .stopping ∧ ((move0 .stopping 0).motion 0).stopTimer = some 5
      ∧ (move0 .stopping 0).part ≠ .halted := by decide +kernel

/-! ### Lanes and orders -/

/-- L31 in a state, with one unmatched line of article 999999 and some strays. -/
def lane31 (x : LaneState) (q : Nat) (t : Counters) (strays : Nat := 0) (from? : Option ReleasedFrom := none) : State :=
  State.reset.modLane 31 fun y =>
    { y with state := x, strays := strays, releasedFrom := from?, timer := some 1200,
             order := some ⟨9, false, [⟨999999, q, 1, none, false, .unmatched t⟩], none⟩ }

theorem lane31_ready (x : LaneState) (q : Nat) (t : Counters) (n : Nat) (f : Option ReleasedFrom) (p : PortId) :
    (lane31 x q t n f).readyFor p := ready_reset p

/-- The last tyre of a FILLING lane, the last of a CANCELLING one, and one of two; article 999999 with weeks 1 and 4095. -/
theorem test_witness_AMatchedArrivalMovesOneTyre :
    (∀ x q t, (lane31 x q t).readyFor lanePort) ∧ ((999999 : BitVec 24).toNat ≤ 999999 ∧ (4095 : BitVec 16).toNat ≤ 4095
      ∧ findMatch 999999 4095 0 ((lane31 .filling 1 ⟨0, 0, 1, 0⟩).lane 31).lines = some ⟨0, none⟩
      ∧ findMatch 999999 1 0 ((lane31 .cancelling 2 ⟨1, 0, 1, 0⟩).lane 31).lines = some ⟨0, none⟩
      ∧ findMatch 999999 1 0 ((lane31 .filling 2 ⟨0, 0, 2, 0⟩).lane 31).lines = some ⟨0, none⟩
      ∧ ((lane31 .filling 1 ⟨0, 0, 1, 0⟩).lane 31).state = .filling ∧ ((lane31 .filling 1 ⟨0, 0, 1, 0⟩).lane 31).strays = 0
      ∧ ((lane31 .cancelling 2 ⟨1, 0, 1, 0⟩).lane 31).state = .cancelling) :=
  ⟨fun x q t => lane31_ready x q t 0 none _, by decide +kernel⟩

/-- An article no line awaits, in a COMPLETE lane and another; clearing 1 and 15 strays. -/
theorem test_witness_StraysAreCountedAndCleared :
    (∀ x q t n, (lane31 x q t n).readyFor lanePort) ∧ (1 ≤ (1 : BitVec 24).toNat ∧ 1 ≤ (1 : BitVec 16).toNat
      ∧ findMatch 1 1 0 ((lane31 .complete 1 ⟨0, 0, 0, 1⟩).lane 31).lines = none
      ∧ ((lane31 .complete 1 ⟨0, 0, 0, 1⟩).lane 31).state = .complete
      ∧ findMatch 1 4095 0 ((lane31 .free 1 ⟨0, 0, 0, 1⟩ 15).lane 31).lines = none
      ∧ ((lane31 .filling 1 ⟨0, 0, 0, 1⟩ 15).lane 31).strays - 15 = 0 ∧ ((lane31 .filling 1 ⟨0, 0, 0, 1⟩ 2).lane 31).strays - 1 ≠ 0) :=
  ⟨fun x q t n => lane31_ready x q t n none _, by decide +kernel⟩

theorem test_witness_LaneReleaseAndLaneEmptyEndAnOrder :
    (∀ x q t n f, (lane31 x q t n f).readyFor lanePort) ∧ (((lane31 .complete 1 ⟨0, 0, 0, 1⟩).lane 31).state = .complete
      ∧ ((lane31 .cancelled 1 ⟨0, 0, 0, 1⟩).lane 31).state = .cancelled ∧ ((lane31 .cancelled 1 ⟨0, 0, 0, 1⟩ 1).lane 31).strays ≠ 0
      ∧ ((lane31 .released 1 ⟨0, 0, 0, 1⟩ 0 (some .complete)).lane 31).state = .released
      ∧ ((lane31 .released 1 ⟨0, 0, 0, 1⟩ 0 (some .complete)).lane 31).releasedFrom = some .complete
      ∧ ((lane31 .released 1 ⟨0, 0, 0, 1⟩ 0 (some .cancelled)).lane 31).releasedFrom = some .cancelled
      ∧ ((lane31 .filling 1 ⟨0, 0, 0, 1⟩).lane 31).state ≠ .released ∧ 31 < (32 : Byte).toNat) :=
  ⟨fun x q t n f => lane31_ready x q t n f _, by decide +kernel⟩

theorem test_witness_AnOpenOrderHasAFreeLaneAndATimer :
    State.reset.readyFor stockPort ∧ ((State.reset.lane 31).state = .free ∧ (State.reset.lane 31).strays = 0
      ∧ ((lane31 .opened 1 ⟨1, 0, 0, 0⟩).lane 31).state = .opened ∧ ((lane31 .opened 1 ⟨1, 0, 0, 0⟩).lane 31).timer ≠ none
      ∧ (lane31 .opened 1 ⟨1, 0, 0, 0⟩).part ≠ .halted ∧ ((lane31 .complete 1 ⟨1, 0, 0, 0⟩).lane 31).state ≠ .opened) :=
  ⟨ready_reset _, by decide +kernel⟩

/-- Four lines and one; a line at the ends of its ranges; room for 24 tyres but not for 25. -/
def spec1 (q : Nat) : LineSpec := ⟨999999, q, 1, some 4095⟩

theorem test_witness_OrderLinesAppendAndCloseTheOrder :
    (∀ x q t, (lane31 x q t).readyFor stockPort) ∧ LineSpecLegal (spec1 1) ∧ LineSpecLegal (spec1 16)
      ∧ ((List.replicate 4 (spec1 1)).length = 4 ∧ ((lane31 .filling 8 ⟨8, 0, 0, 0⟩).lane 31).state ≠ .opened
      ∧ ((lane31 .opened 8 ⟨8, 0, 0, 0⟩).lane 31).state = .opened
      ∧ (((lane31 .opened 8 ⟨8, 0, 0, 0⟩).lane 31).order.map fun o => (o.lines.map Line.quantity).sum) = some 8
      ∧ 8 + ([spec1 16].map LineSpec.quantity).sum ≤ State.reset.globals.laneCapacity
      ∧ ¬ 8 + ([spec1 16, spec1 1].map LineSpec.quantity).sum ≤ State.reset.globals.laneCapacity) :=
  ⟨fun x q t => lane31_ready x q t 0 none _,
    by refine ⟨?_, ?_, ?_, ?_, ?_, ?_, ?_⟩ <;> simp [spec1],
    by refine ⟨?_, ?_, ?_, ?_, ?_, ?_, ?_⟩ <;> simp [spec1], by decide +kernel⟩

theorem no_task (t : Ticket) : State.reset.task t = none := by revert t; decide +kernel

/-- One task stored in an empty pool is the only one. -/
theorem only_task (s : State) (h : ∀ u, s.task u = none) (t u : Ticket) (x y : Task)
    (e : (s.setTask t (some x)).task u = some y) : u = t ∧ y = x := by
  by_cases n : t = u
  · subst n
    exact ⟨rfl, (Option.some.inj ((setTask_task_self _ _ _).symm.trans e)).symm⟩
  · simp [setTask_task_ne, n, h] at e

/-- L31 with a pick task of its line, at the face or in the queue. -/
def laned (x : TaskState) : State :=
  (lane31 .filling 4 ⟨1, 1, 1, 1⟩).setTask 255 (some ⟨.pick, ⟨0, 19, 3⟩, 1, some ⟨31, 0, none, false⟩, 0, x⟩)

theorem ready_setTask (s : State) (p : PortId) (h : s.readyFor p) (t : Ticket) (x : Option Task) :
    (s.setTask t x).readyFor p := h

theorem laned_ready (x : TaskState) (p : PortId) : (laned x).readyFor p :=
  ready_setTask _ _ (lane31_ready _ _ _ _ _ p) _ _

theorem laned_task (x : TaskState) (t : Ticket) (y : Task) (h : (laned x).task t = some y) :
    t = 255 ∧ y = ⟨.pick, ⟨0, 19, 3⟩, 1, some ⟨31, 0, none, false⟩, 0, x⟩ :=
  only_task _ no_task _ _ _ _ h

theorem test_witness_OrderCancelByLaneState :
    (∀ x q t, (lane31 x q t).readyFor stockPort) ∧ (∀ x, (laned x).readyFor stockPort)
      ∧ (∀ x ∈ [TaskState.queued, .presented], ∀ t y, (laned x).task t = some y → y.state = .cancelled → y.work = none)
      ∧ (∀ x t y, (laned x).task t = some y → y.work.map PickWork.lane = some 31 → y.kind = .pick)
      ∧ (((lane31 .opened 1 ⟨1, 0, 0, 0⟩).lane 31).state = .opened
      ∧ ((lane31 .complete 1 ⟨0, 0, 0, 1⟩).lane 31).state = .complete
      ∧ ((lane31 .released 1 ⟨0, 0, 0, 1⟩).lane 31).state ∈ [LaneState.free, .cancelling, .cancelled, .released]
      ∧ ((laned .presented).task 255).isSome ∧ ((laned .queued).lane 31).state = .filling
      ∧ ((laned .presented).lane 31).state = .filling ∧ ((laned .presented).lane 31).order.isSome) :=
  ⟨fun x q t => lane31_ready x q t 0 none _, fun x => laned_ready x _,
    fun x hx t y h e => (by rw [(laned_task x t y h).2] at e; simp at hx; rcases hx with rfl | rfl <;> cases e),
    fun x t y h _ => (by rw [(laned_task x t y h).2]), by decide +kernel⟩

/-! ### The stock map and the balance -/

theorem reset_balance : (State.reset.carousel 0).cfg.legal ∧ (State.reset.carousel 0).payloadsRight
    ∧ (State.reset.carousel 0).profileRight
    ∧ (State.reset.carousel 0).balance.peakRight (State.reset.carousel 0).cfg.n := by
  unfold CarouselConfig.legal Carousel.payloadsRight Carousel.profileRight Balance.peakRight
  decide +kernel

theorem test_witness_OneChangeKeepsTheBalanceLaw : (⟨0, 19, 3⟩ : BayRef).carrier.val < (State.reset.carousel 0).cfg.n
    ∧ (State.reset.carousel 0).cfg.legal ∧ (State.reset.carousel 0).payloadsRight ∧ (State.reset.carousel 0).profileRight
    ∧ (State.reset.carousel 0).balance.peakRight (State.reset.carousel 0).cfg.n :=
  ⟨by decide +kernel, reset_balance⟩

theorem test_witness_TheShorterWayEndsAtTheTarget : 8 % 2 = 0 ∧ 8 ≤ 8 ∧ 7 < 8 ∧ (rotation 8 7 0).1 = .forward
    ∧ (rotation 8 0 7).1 = .backward := by decide

theorem test_witness_ThePlaceableCountIsTheLargestThatPasses :
    placeable 8 7 small.entries 95 1500 4 = some (4, 1400) ∧ placeable 8 3 small.entries 95 0 4 = none := by decide +kernel

/-- One bay of carrier 19 with a count, in each branch of the load. -/
def loaded (x : MotionState) (disputed : Bool) : State :=
  (at0 x).modBay ⟨0, 19, 3⟩ fun b => { b with lot := some ⟨5, 6, 7, 500⟩, count := 1, disputed := disputed }

theorem loaded_ready (x : MotionState) (d : Bool) (p : PortId) : (loaded x d).readyFor p := ready_reset p

theorem test_witness_LoadBayWritesTheBook :
    (∀ x d, (loaded x d).readyFor stockPort) ∧ ((999999 : BitVec 24).toNat ≤ 999999 ∧ (4095 : BitVec 16).toNat ≤ 4095
      ∧ (1000 : BitVec 16).toNat ≤ 1000 ∧ (500 : BitVec 16).toNat ≤ 500 ∧ (100 : BitVec 16).toNat = 100
      ∧ ((loaded .offline false).carousel 0).cfg.n ≤ (20 : CarrierId).val
      ∧ ((loaded .idle false).motion 0).state ∉ [MotionState.offline, .withdrawn] ∧ ((loaded .offline true).bay ⟨0, 19, 3⟩).disputed = true
      ∧ stackLimit 900 500 < 2 ∧ (19 : CarrierId).val < ((loaded .offline false).carousel 0).cfg.n
      ∧ ((loaded .offline false).motion 0).state ∈ [MotionState.offline, .withdrawn]
      ∧ ((loaded .offline false).bay ⟨0, 19, 3⟩).disputed = false
      ∧ ((loaded .offline false).carrier 0 19).payload - ((loaded .offline false).bay ⟨0, 19, 3⟩).mass
          ≤ ((loaded .offline false).carousel 0).cfg.payloadLimit) :=
  ⟨fun x d => loaded_ready x d _, by decide +kernel⟩

def record1 (x : DiscState) : DiscRecord :=
  { origin := .carrier, bay := ⟨0, 19, 3⟩, lot := none, book := 1, counted := 1, attempts := 2, kind := .surplus,
    unsteady := false, cut := 0, trimmed := 0, state := x }

/-- D31 holds a record; C0's carrier 19, B3 is assigned or EMPTY. -/
def disc31 (x : DiscState) (lot : Option Lot) : State :=
  { (State.reset.setDisc 31 (.record (record1 x))).modBay ⟨0, 19, 3⟩ (fun b => { b with lot := lot }) with discOrder := [31] }

theorem disc31_ready (x : DiscState) (l : Option Lot) (p : PortId) : (disc31 x l).readyFor p := ready_reset p

theorem test_witness_ReadsAnswerAndChangeNothing :
    (∀ x l p, (disc31 x l).readyFor p) ∧ ((19 : CarrierId).val < ((disc31 .opened none).carousel 0).cfg.n
      ∧ (999999 : BitVec 24).toNat ≤ 999999 ∧ 1 ≤ (1 : BitVec 24).toNat ∧ (disc31 .opened none).disc 31 = .record (record1 .opened)
      ∧ State.reset.discOrder = [] ∧ (disc31 .opened none).discOrder = 31 :: [] ∧ (lanePort ≠ stockPort)
      ∧ ((disc31 .opened none).carousel 0).cfg.station = some 0) :=
  ⟨fun x l p => disc31_ready x l p, by decide +kernel⟩

/-! ### Put-away -/

/-- C0 is SUSPENDED at offset 2 on a move of three steps from offset 0 towards carrier 5. -/
def suspended3 : State :=
  store3.modMotion 0 fun m =>
    { m with state := .suspended, held := some 2, chosen := some ⟨5, 3⟩, lastMove := some ⟨.forward, 3⟩ }

/-- R42: the distance of carrier 5 is three steps from offset 0, not one from offset 2. -/
theorem test_rank_offset_suspended : (suspended3.candidate? ⟨225550, 1806, 105, 225⟩ 6 (some 1) ⟨0, 5, 1⟩).map Candidate.steps
    = some 3 := by decide +kernel

/-- The store of "a put clamped …": C0 in service. -/
theorem store3_ready (p : PortId) : store3.readyFor p := ready_reset p

/-- Every place of the pool is taken. -/
def fullPool : State := { State.reset with tasks := Vector.replicate 256 (some ⟨.pick, ⟨0, 0, 0⟩, 1, none, 0, .queued⟩) }

theorem fullPool_ready (p : PortId) : fullPool.readyFor p := ready_reset p

def lot3 : Lot := ⟨225550, 1806, 105, 225⟩

def best3 : Candidate := ⟨⟨0, 5, 1⟩, .a, 2, 300, false, 3⟩

theorem test_witness_TheBestCandidateIsChosen :
    best? Candidate.better (store3.candidates lot3 6 (some 1)) = some best3 ∧ best3 ∈ store3.candidates lot3 6 (some 1)
      ∧ (store3.motion 0).held = some 0 ∧ (store3.motion 0).state ∉ [MotionState.moving, .stopping, .suspended]
      ∧ best3 ∈ suspended3.candidates lot3 6 (some 1) ∧ (suspended3.motion 0).state = .suspended
      ∧ (suspended3.motion 0).chosen = some ⟨5, 3⟩ ∧ (suspended3.carousel 0).cfg.n = 8
      ∧ (suspended3.motion 0).lastMove = some ⟨(rotation 8 0 3).1, (rotation 8 0 3).2⟩ := by
  decide +kernel

theorem test_witness_PutRequestPromisesTyresToTheBestBay :
    (State.reset.readyFor stockPort ∧ fullPool.readyFor stockPort ∧ store3.readyFor stockPort)
      ∧ ((225550 : BitVec 24).toNat = 225550 ∧ 1 ≤ 6 ∧ 15 ≤ 15 ∧ fullPool.freeTicket? = none ∧ State.reset.freeTicket? ≠ none
        ∧ best? Candidate.better (State.reset.candidates lot3 15 none) = none ∧ store3.freeTicket? = some 12
        ∧ best? Candidate.better (store3.candidates lot3 6 (some 1)) = some best3) :=
  ⟨⟨ready_reset _, fullPool_ready _, store3_ready _⟩, by decide +kernel⟩

/-- C0 presents carrier 19; B3 holds a lot. -/
def faceBase (flag : Bool) : State :=
  (State.reset.modCarousel 0 fun y =>
      { y with motion := { y.motion with state := .presenting, held := some 0 },
               face := some ⟨19, none, none, flag⟩ }).modBay ⟨0, 19, 3⟩ fun b =>
        { b with lot := some ⟨5, 6, 7, 100⟩, count := 5 }

/-- Ticket 255 is a task on the bay. -/
def face0 (kind : TaskKind) (x : TaskState) (count : Nat) (flag : Bool) : State :=
  (faceBase flag).setTask 255
    (some ⟨kind, ⟨0, 19, 3⟩, count, if kind = .pick then some ⟨31, 0, none, false⟩ else none, 0, x⟩)

theorem face0_ready (k : TaskKind) (x : TaskState) (n : Nat) (f : Bool) (p : PortId) : (face0 k x n f).readyFor p := ready_reset p

theorem faceBase_calls (f : Bool) : ∀ c, ((faceBase f).carousel c).calls = [] := by
  revert f; decide +kernel

/-- Without a call no carrier has two. -/
theorem one_call (s : State) (h : ∀ c, (s.carousel c).calls = []) : s.oneCallPerCarrier := by
  intro c
  rw [Carousel.oneCallPerCarrier, h c]
  simp

theorem face0_calls (k : TaskKind) (x : TaskState) (n : Nat) (f : Bool) : (face0 k x n f).oneCallPerCarrier :=
  one_call _ fun c => (by rw [face0, setTask_carousel]; exact faceBase_calls f c)

theorem face0_task (k : TaskKind) (x : TaskState) (n : Nat) (f : Bool) (t : Ticket) (y : Task)
    (h : (face0 k x n f).task t = some y) : y.bay = ⟨0, 19, 3⟩ := by
  rw [(only_task _ no_task _ _ _ _ h).2]

theorem test_witness_PutConfirmStoresTheTyres :
    (∀ n, (face0 .put .presented n false).readyFor (stationPort 0)) ∧ (∀ n, (face0 .put .presented n false).oneCallPerCarrier)
      ∧ ((face0 .put .presented 3 false).task 255 = some ⟨.put, ⟨0, 19, 3⟩, 3, none, 0, .presented⟩
        ∧ ((face0 .put .presented 3 false).carousel 0).cfg.station = some 0 ∧ 3 ≤ 3 ∧ 0 ≤ 3
        ∧ ((face0 .put .presented 3 false).carousel 0).presents 19 = true) :=
  ⟨fun n => face0_ready _ _ n _ _, fun n => face0_calls _ _ n _, by decide +kernel⟩

theorem test_witness_ConfirmationsAreCheckedInOrder :
    (∀ k x n, (face0 k x n false).readyFor (stationPort 0)) ∧ ((face0 .put .queued 3 false).task 0 = none
      ∧ ((face0 .put .queued 3 false).task 255).map Task.state = some .queued
      ∧ ((face0 .pick .cancelled 3 false).task 255).map Task.state = some .cancelled
      ∧ ((face0 .pick .presented 3 false).task 255).map (fun x => (x.kind, x.count)) = some (.pick, 3)
      ∧ ((face0 .pick .presented 3 false).carousel 0).cfg.station ≠ some 3 ∧ 3 < 4 ∧ 4 ≤ 15 ∧ 255 ≤ 255) :=
  ⟨fun k x n => face0_ready k x n _ _, by decide +kernel⟩

theorem test_witness_PutCancelWithdrawsThePromise :
    (∀ k x n, (face0 k x n false).readyFor stockPort) ∧ ((face0 .put .queued 3 false).task 0 = none
      ∧ ((face0 .pick .queued 3 false).task 255).map Task.kind = some .pick
      ∧ ((face0 .put .queued 3 false).task 255).map (fun x => (x.kind, x.state)) = some (.put, .queued)) :=
  ⟨fun k x n => face0_ready k x n _ _, by decide +kernel⟩

/-! ### Allocation, calls and the pick face -/

/-- A full pool with no task to grow; a free pool; a QUEUED task of the same line on the same bay. -/
theorem test_witness_AllocationReservesTyres : 1 ≤ 1 ∧ (fullPool.allocateTo ⟨0, 19, 3⟩ 1 31 0 none false).isNone = true
    ∧ (State.reset.allocateTo ⟨0, 19, 3⟩ 1 31 0 none false).isSome = true
    ∧ ((face0 .pick .queued 3 false).allocateTo ⟨0, 19, 3⟩ 1 31 0 none false).isSome = true
    ∧ (face0 .pick .queued 3 false).growable ⟨0, 19, 3⟩ 31 0 none ≠ [] := by decide +kernel

/-- L31 awaits article 5, of which carrier 19 holds five tyres of week 6 in B3 and three in B2. -/
def order5 (body : LineBody) (minWeek : Option Nat := none) : State :=
  ((faceBase false).modBay ⟨0, 19, 2⟩ fun b => { b with lot := some ⟨5, 6, 7, 100⟩, count := 3 }).modLane 31 fun y =>
    { y with state := .filling, order := some ⟨9, false, [⟨5, 16, 16, minWeek, false, body⟩], some 0⟩ }

/-- A set of the line, bound or not, with open tyres. -/
def openSet (week : Option Nat) (openTyres : Nat) : SetRecord := ⟨week, ⟨openTyres, 0, 0, 0⟩⟩

/-- An unmatched line with bays and with none (minimum week 7), with a free pool and a full one; a bound and an unbound
set that one bay covers (4), that two cover (8) and that the week cannot cover (9). -/
theorem test_witness_LinesAndSetsTakeTheOldestWeek :
    let u := order5 (.unmatched ⟨1, 0, 0, 0⟩)
    let m (w : Option Nat) (n : Nat) : State := order5 (.matched [openSet w n])
    let line (w : Option Nat) (n : Nat) : Line := ⟨5, 16, 16, none, false, .matched [openSet w n]⟩
    (u.line? 31 0).map (fun x => (x.body, x.tyres.openTyres)) = some (.unmatched ⟨1, 0, 0, 0⟩, 1)
      ∧ u.eligibleBays 5 none = [(6, ⟨0, 19, 2⟩), (6, ⟨0, 19, 3⟩)] ∧ u.eligibleBays 5 (some 7) = []
      ∧ (u.allocLine 31 0).stopped = false ∧ ({ u with tasks := fullPool.tasks }.allocLine 31 0).stopped = true
      ∧ (∀ w ∈ [none, some 6], ∀ n ∈ [4, 8, 9], (m w n).line? 31 0 = some (line w n) ∧ (line w n).sets[0]? = some (openSet w n))
      ∧ ((m (some 6) 8).allocSet 31 0 0 (line (some 6) 8) false (openSet (some 6) 8)).stopped = false := by
  decide +kernel

/-- The task on the bay is of a set of L31's line, with counters of its own. -/
def faceSet (n : Counters) : State :=
  ((faceBase false).modLane 31 fun y =>
    { y with state := .filling, order := some ⟨9, false, [⟨5, 4, 4, none, false, .matched [⟨some 6, n⟩]⟩], some 0⟩ }).setTask 255
      (some ⟨.pick, ⟨0, 19, 3⟩, 3, some ⟨31, 0, some 0, false⟩, 0, .presented⟩)

theorem faceSet_ready (n : Counters) (p : PortId) : (faceSet n).readyFor p := by
  apply ready_setTask
  exact ready_reset p

theorem faceSet_calls (n : Counters) : (faceSet n).oneCallPerCarrier :=
  one_call _ fun c => (by rw [faceSet, setTask_carousel]; exact faceBase_calls false c)

theorem faceSet_task (n : Counters) (t : Ticket) (y : Task) (h : (faceSet n).task t = some y) :
    y = ⟨.pick, ⟨0, 19, 3⟩, 3, some ⟨31, 0, some 0, false⟩, 0, .presented⟩ :=
  (only_task _ no_task _ _ _ _ h).2

/-- The whole count 3, and short picks of 0 and 2 of it, of no set; a short pick of 0 of a set with one tyre in transit, and
with none. -/
theorem test_witness_PickConfirmMovesTheTyres :
    (∀ n, (face0 .pick .presented n false).readyFor (stationPort 0)) ∧ (∀ n, (face0 .pick .presented n false).oneCallPerCarrier)
      ∧ (∀ n, (faceSet n).readyFor (stationPort 0)) ∧ (∀ n, (faceSet n).oneCallPerCarrier)
      ∧ (∀ n u z, (faceSet n).task u = some z → z.work ≠ none → z.kind = .pick ∧ z.state ≠ .cancelled)
      ∧ ((face0 .pick .presented 3 false).task 255
            = some ⟨.pick, ⟨0, 19, 3⟩, 3, some ⟨31, 0, none, false⟩, 0, .presented⟩
        ∧ ((face0 .pick .presented 3 false).carousel 0).cfg.station = some 0 ∧ 3 ≤ 15 ∧ 0 < 3 ∧ 2 < 3
        ∧ ((face0 .pick .presented 3 false).carousel 0).presents 19 = true
        ∧ ((face0 .pick .presented 3 false).carousel 0).face = some ⟨19, none, none, false⟩
        ∧ ((faceSet ⟨1, 3, 0, 0⟩).task 255).isSome ∧ ((faceSet ⟨1, 3, 0, 0⟩).carousel 0).cfg.station = some 0
        ∧ ((faceSet ⟨1, 3, 0, 0⟩).carousel 0).face = some ⟨19, none, none, false⟩
        ∧ (((faceSet ⟨0, 3, 1, 0⟩).line? 31 0).bind fun y => y.sets[0]?) = some ⟨some 6, ⟨0, 3, 1, 0⟩⟩ ∧ 0 < 1 + 0 + 0
        ∧ (((faceSet ⟨1, 3, 0, 0⟩).line? 31 0).bind fun y => y.sets[0]?) = some ⟨some 6, ⟨1, 3, 0, 0⟩⟩) :=
  ⟨fun n => face0_ready _ _ n _ _, fun n => face0_calls _ _ n _, fun n => faceSet_ready n _, faceSet_calls,
    fun n u z h _ => (by rw [faceSet_task n u z h]; exact ⟨rfl, nofun⟩), by decide +kernel⟩

/-- The last carrier in use, 19 of 20, with the fault flag clear and set; a POSITION of 19 against a held offset 0. -/
theorem test_witness_ReleaseAndMispositionCutThePresentation :
    (∀ f p, (face0 .pick .presented 3 f).readyFor p) ∧ (∀ f, (face0 .pick .presented 3 f).oneCallPerCarrier)
      ∧ (∀ f t x, (face0 .pick .presented 3 f).task t = some x → x.bay.carousel = 0 → x.state ≠ .queued → x.bay.carrier = 19)
      ∧ (((face0 .pick .presented 3 true).carousel 0).face = some ⟨19, none, none, true⟩
        ∧ ((face0 .pick .presented 3 false).carousel 0).face = some ⟨19, none, none, false⟩
        ∧ ((face0 .pick .presented 3 false).carousel 0).cfg.station = some 0
        ∧ (19 : CarrierId).val < ((face0 .pick .presented 3 false).carousel 0).cfg.n
        ∧ ((face0 .pick .presented 3 false).motion 0).state = .presenting
        ∧ ((face0 .pick .presented 3 false).motion 0).held ≠ some 19) :=
  ⟨fun f p => face0_ready _ _ _ f p, fun f => face0_calls _ _ _ f,
    fun f t x h _ _ => (by rw [face0_task _ _ _ f t x h]), by decide +kernel⟩

/-- The queue of Table 5-3, and with carrier 2 at the age limit. -/
def aged5 : State := queue5.modCalls 1 fun q => if q.carrier = 2 then { q with passes := 8 } else q

theorem test_witness_SelectionRanksTheEligibleCalls :
    (queue5.choose? 1).map (fun r => decide (0 < r.steps)) = some true
      ∧ (aged5.choose? 1).map (fun r => (r.call.carrier, r.call.passes)) = some (2, 8)
      ∧ (queue5.eligibleCalls 1).map Call.carrier = [2, 5, 3, 7] := by decide +kernel

theorem test_witness_AGrantStartsTheMove :
    (queue5.select 1).nextGrant? = some 1 ∧ ((queue5.select 1).motion 1).held = some 0 := by decide +kernel

/-! ### Audits -/

def sweep1 : SweepContext := ⟨0, 40, .once, .steal, .adjust, 0, 40⟩

/-- C0 with a sweep context and a call of its scope. -/
def swept (x : MotionState) : State :=
  (at0 x).modCarousel 0 fun y => { y with sweep := some sweep1, calls := [⟨0, 0, 0, some sweep1.scope, false⟩] }

theorem swept_ready (x : MotionState) (p : PortId) : (swept x).readyFor p := ready_reset p

theorem queue5_ready (p : PortId) : queue5.readyFor p := ready_reset p

theorem test_witness_AuditOrdersRaiseScopes :
    (∀ x, (at0 x).readyFor stockPort) ∧ (∀ f, (faceBase f).readyFor stockPort) ∧ queue5.readyFor stockPort
      ∧ (∀ x, (swept x).readyFor stockPort) ∧ (1 ≤ 1 ∧ 40 ≤ 40 ∧ ¬ (true = true ∧ false = true)
        ∧ 5 < (6 : Byte).toNat ∧ 39 < (40 : Byte).toNat ∧ (0 : Byte).toNat < 1 ∧ 40 < (41 : Byte).toNat
        ∧ ((at0 .idle).carousel 0).cfg.n ≤ (20 : CarrierId).val ∧ ((at0 .idle).carousel 0).cfg.n < 21
        ∧ ((at0 .withdrawn).motion 0).state = .withdrawn ∧ ((swept .idle).carousel 0).sweep ≠ none
        ∧ ((faceBase false).carousel 0).face.map Presentation.carrier = some 19
        ∧ (queue5.carousel 1).calls.map Call.carrier = [2, 5, 3, 7] ∧ ((at0 .idle).carousel 0).calls = []) :=
  ⟨fun x => at0_ready x _ _, fun _ => ready_reset _, queue5_ready _, fun x => swept_ready x _, by decide +kernel⟩

/-- A call of carrier 0 whose scope is one bay, disputed. -/
def barred : State :=
  ((at0 .moving).modCarousel 0 fun y =>
    { y with calls := [⟨0, 0, 0, some ⟨put (Vector.replicate 4 none) 3 (some .carrier), .adjust, false⟩, false⟩] }).modBay
      ⟨0, 0, 3⟩ fun b => { b with disputed := true }

/-- Tasks to show; neither task nor scope; a scope alone, with entries enough, with none free, and with nothing to count. -/
theorem test_witness_APresentationShowsTheUnheldTasks :
    (∀ t x, (swept .moving).task t = some x → x.state = .queued) ∧ (∀ t x, barred.task t = some x → x.state = .queued)
      ∧ ((queue5.carousel 1).cfg.station = some 0
        ∧ sortBy faceBefore ((queue5.queuedOn 1 7).filter fun q => !queue5.isHeld q.2) ≠ []
        ∧ (at0 .moving).queuedOn 0 39 = [] ∧ ((at0 .moving).carousel 0).callFor 39 = none
        ∧ ((swept .moving).carousel 0).cfg.station = some 0 ∧ (swept .moving).queuedOn 0 0 = []
        ∧ (((swept .moving).carousel 0).callFor 0).bind Call.scope = some sweep1.scope
        ∧ ((swept .moving).carousel 0).phase = none
        ∧ (sweep1.scope.bayList.filter fun b => !((swept .moving).bay ⟨0, 0, b⟩).disputed) = [0, 1, 2, 3]
        ∧ (swept .moving).freeEntries.length = 32
        ∧ ({ swept .moving with discs := Vector.replicate 32 .reserved } : State).freeEntries.length = 0
        ∧ ((((barred.carousel 0).callFor 0).bind Call.scope).map fun x => (x.sweep, x.bayList)) = some (false, [3])
        ∧ (barred.bay ⟨0, 0, 3⟩).disputed = true) :=
  ⟨fun t x h => (by have e : State.reset.task t = some x := h
                    rw [no_task] at e; cases e),
    fun t x h => (by have e : State.reset.task t = some x := h
                     rw [no_task] at e; cases e), by decide +kernel⟩

/-- Carrier 19 of a swept C0 is presented, with a pending audit, a phase or none, and the fault flag. -/
def sweptFace (pending : Option Scope) (phase : Option Phase) (flag : Bool) : State :=
  (swept .presenting).modCarousel 0 fun y => { y with face := some ⟨19, pending, none, flag⟩, phase := phase }

/-- The choice of a swept C0 is the call of carrier 0, with its scope and without. -/
def sweptWait (scope : Option Scope) : State :=
  (swept .waitPermit).modCarousel 0 fun y =>
    { y with motion := { y.motion with chosen := some ⟨0, 0⟩ }, calls := y.calls.map fun q => { q with scope := scope } }

/-- C0 idle, waiting for a permit, and presenting: with a running phase, with a PRESENTED task, and with neither. -/
theorem test_witness_AuditStopTakesTheSweepAway :
    (∀ x, (swept x).readyFor stockPort) ∧ (∀ p f b, (sweptFace p f b).readyFor stockPort)
      ∧ (∀ x, (sweptWait x).readyFor stockPort)
      ∧ (((swept .idle).carousel 0).oneCallPerCarrier ∧ ((sweptWait (some sweep1.scope)).carousel 0).oneCallPerCarrier
        ∧ ((sweptFace (some sweep1.scope) none true).carousel 0).oneCallPerCarrier)
      ∧ (∀ t y, (sweptFace (some sweep1.scope) none true).task t = some y → y.state ≠ .presented ∧ y.bay.carrier = 19)
      ∧ ((State.reset.carousel 0).sweep = none ∧ ((swept .idle).carousel 0).sweep ≠ none
        ∧ ((swept .idle).carousel 0).face = none ∧ ((swept .idle).carousel 0).phase = none
        ∧ ((swept .idle).motion 0).state ≠ .waitPermit ∧ ((sweptWait none).motion 0).state = .waitPermit
        ∧ ((sweptWait none).motion 0).chosen = some ⟨0, 0⟩ ∧ ((sweptWait none).carousel 0).face = none
        ∧ ((sweptWait none).carousel 0).phase = none ∧ ((sweptWait none).carousel 0).sweep ≠ none
        ∧ (((sweptWait none).carousel 0).calls.all fun q => !(sweptWait none).eligible 0 q) = true
        ∧ (((sweptWait (some sweep1.scope)).carousel 0).callFor 0).map ((sweptWait (some sweep1.scope)).eligible 0) = some true
        ∧ ((sweptFace (some sweep1.scope) none true).motion 0).state = .presenting
        ∧ ((sweptFace (some sweep1.scope) none true).carousel 0).face = some ⟨19, some sweep1.scope, none, true⟩
        ∧ ((sweptFace (some sweep1.scope) none true).carousel 0).sweep ≠ none ∧ sweep1.scope.withoutSweep = none
        ∧ ((sweptFace (some sweep1.scope) none true).carousel 0).phase = none
        ∧ ((sweptFace none (some ⟨.adjust, true, Vector.replicate 4 none⟩) true).carousel 0).phase ≠ none
        ∧ (((sweptFace none none false).setTask 255 (some ⟨.put, ⟨0, 19, 3⟩, 1, none, 0, .presented⟩)).task 255).map Task.state
            = some .presented) :=
  ⟨fun x => swept_ready x _, fun _ _ _ => ready_reset _, fun _ => ready_reset _,
    by unfold Carousel.oneCallPerCarrier; decide +kernel,
    fun t y h => (by have e : State.reset.task t = some y := h
                     rw [no_task] at e; cases e), by decide +kernel⟩

/-- A phase with B3 at an attempt and B2 unsettled beside it. -/
def phase3 (attempt : Nat) (first second : Option Nat) : Phase :=
  { mode := .review, sweep := false,
    bays := put (put (Vector.replicate 4 none) 2 (some ⟨.carrier, 0, 0, none, none, 1, none⟩)) 3
      (some ⟨.carrier, 5, attempt, first, second, 0, none⟩) }

def counting (attempt : Nat) (first second : Option Nat) : State :=
  (faceBase false).modCarousel 0 fun y => { y with phase := some (phase3 attempt first second) }

theorem counting_ready (a : Nat) (f g : Option Nat) (p : PortId) : (counting a f g).readyFor p := ready_reset p

/-- A phase whose only bay is B3, with the sweep flag and a context or without. -/
def ending (attempt : Nat) (first : Option Nat) (flag : Bool) (w : Option SweepContext) : State :=
  (faceBase false).modCarousel 0 fun y =>
    { y with sweep := w,
             phase := some ⟨.review, flag, put (Vector.replicate 4 none) 3
               (some ⟨.sweep, 5, attempt, first, none, 0, none⟩)⟩ }

theorem ending_ready (a : Nat) (f : Option Nat) (b : Bool) (w : Option SweepContext) (p : PortId) :
    (ending a f b w).readyFor p := ready_reset p

/-- Another bay left; no face, no phase, no such bay, a settled one; the last bay, without a sweep, within it, and at the
last carrier of a ONCE and of a ROLLING sweep. -/
theorem test_witness_AuditCountIsJudgedAgainstTheSnapshot :
    (∀ a f g, (counting a f g).readyFor (stationPort 0)) ∧ State.reset.readyFor (stationPort 0)
      ∧ (∀ f, (faceBase f).readyFor (stationPort 0)) ∧ (∀ a f b w, (ending a f b w).readyFor (stationPort 0))
      ∧ (((counting 0 none none).carousel 0).cfg.station = some 0
      ∧ ((counting 0 none none).carousel 0).face = some ⟨19, none, none, false⟩
      ∧ ((counting 0 none none).carousel 0).phase = some (phase3 0 none none)
      ∧ look (phase3 0 none none).bays 3 = some ⟨.carrier, 5, 0, none, none, 0, none⟩
      ∧ look (phase3 1 (some 4) none).bays 3 = some ⟨.carrier, 5, 1, some 4, none, 0, none⟩
      ∧ look (phase3 0 none none).bays 2 = some ⟨.carrier, 0, 0, none, none, 1, none⟩ ∧ (2 : BayId) ≠ 3
      ∧ 15 ≠ 5 ∧ 15 ≤ 15 ∧ (some 4 : Option Nat) ≠ some 15
      ∧ (State.reset.carousel 0).face = none ∧ (State.reset.carousel 0).cfg.station = some 0
      ∧ ((faceBase false).carousel 0).phase = none ∧ look (phase3 0 none none).bays 0 = none
      ∧ (look (put (phase3 0 none none).bays 3 (some ⟨.carrier, 5, 2, none, none, 0, some .matched⟩)) 3).map PhaseBay.settled
          = some (some .matched)
      ∧ (∀ b ∈ [false, true], ∀ w ∈ [none, some sweep1, some { sweep1 with remaining := 1 },
          some { sweep1 with remaining := 1, repetition := .rolling }],
          ((ending 0 none b w).carousel 0).cfg.station = some 0 ∧ ((ending 0 none b w).carousel 0).sweep = w
            ∧ ((ending 0 none b w).carousel 0).face = some ⟨19, none, none, false⟩
            ∧ (((ending 0 none b w).carousel 0).phase.map fun f => (f.sweep, look f.bays 3))
              = some (b, some ⟨.sweep, 5, 0, none, none, 0, none⟩)
            ∧ ∀ d, d ≠ 3 → (((ending 0 none b w).carousel 0).phase.map fun f => look f.bays d) = some none)) :=
  ⟨fun a f g => counting_ready a f g _, ready_reset _, fun _ => ready_reset _, fun a f b w => ending_ready a f b w _,
    by decide +kernel⟩

theorem test_witness_AReviewedDiscrepancyDisputesTheBay :
    (∀ a f g, (counting a f g).readyFor (stationPort 0)) ∧ (∀ a f b w, (ending a f b w).readyFor (stationPort 0))
      ∧ (((counting 1 (some 15) none).carousel 0).cfg.station = some 0
      ∧ ((counting 1 (some 15) none).carousel 0).face = some ⟨19, none, none, false⟩
      ∧ ((counting 1 (some 15) none).carousel 0).phase = some (phase3 1 (some 15) none)
      ∧ look (phase3 1 (some 15) none).bays 3 = some ⟨.carrier, 5, 1, some 15, none, 0, none⟩
      ∧ look (phase3 2 (some 4) (some 6)).bays 3 = some ⟨.carrier, 5, 2, some 4, some 6, 0, none⟩
      ∧ look (phase3 2 (some 4) (some 6)).bays 2 = some ⟨.carrier, 0, 0, none, none, 1, none⟩ ∧ (2 : BayId) ≠ 3
      ∧ (phase3 2 (some 4) (some 6)).mode = .review ∧ 15 ≠ 5 ∧ 15 ≤ 15
      ∧ ((ending 1 (some 15) false none).carousel 0).cfg.station = some 0
      ∧ ((ending 1 (some 15) false none).carousel 0).face = some ⟨19, none, none, false⟩
      ∧ (((ending 1 (some 15) false none).carousel 0).phase.map fun f => (f.mode, f.sweep, look f.bays 3))
          = some (.review, false, some ⟨.sweep, 5, 1, some 15, none, 0, none⟩)) :=
  ⟨fun a f g => counting_ready a f g _, fun a f b w => ending_ready a f b w _, by decide +kernel⟩

/-- The phase is an ADJUST one, and a task of three tyres waits on B3. -/
def adjusting (kind : TaskKind) (attempt : Nat) (first second : Option Nat) : State :=
  (((counting attempt first second).modCarousel 0 fun y =>
      { y with phase := y.phase.map fun f => { f with mode := .adjust } }).modBay ⟨0, 19, 3⟩ fun b =>
        if kind = .pick then { b with reserved := 3 } else { b with incoming := 3 }).setTask 255
          (some ⟨kind, ⟨0, 19, 3⟩, 3, if kind = .pick then some ⟨31, 0, none, false⟩ else none, 7, .queued⟩)

theorem adjusting_ready (k : TaskKind) (a : Nat) (f g : Option Nat) (p : PortId) : (adjusting k a f g).readyFor p := by
  apply ready_setTask
  exact ready_reset p

theorem adjusting_task (k : TaskKind) (a : Nat) (f g : Option Nat) (t : Ticket) (y : Task)
    (h : (adjusting k a f g).task t = some y) :
    y = ⟨k, ⟨0, 19, 3⟩, 3, if k = .pick then some ⟨31, 0, none, false⟩ else none, 7, .queued⟩ :=
  (only_task _ no_task _ _ _ _ h).2

/-- A count of 9, the stack limit of the bay, with nothing to cut and with a put to trim; a count of 1 with a pick to
cut; at the second attempt and at the third. -/
theorem test_witness_AnAdjustedDiscrepancyWritesTheBook :
    (∀ k a f g, (adjusting k a f g).readyFor (stationPort 0))
      ∧ (∀ k a f g t z, (adjusting k a f g).task t = some z →
          1 ≤ z.count ∧ z.stamp.toNat < 2 ^ 31 ∧ (z.kind = .put → z.work = none)
            ∧ (z.kind = .pick → ∃ w, z.work = some w ∧ w.set = none))
      ∧ (((faceBase false).bay ⟨0, 19, 3⟩).lot = some ⟨5, 6, 7, 100⟩ ∧ 9 ≠ 5
      ∧ 9 ≤ (faceBase false).stackLimitOf ⟨0, 19, 3⟩
      ∧ (∀ k ∈ [TaskKind.pick, .put], ∀ p ∈ [(1, some 9, none), (2, some 1, some 9)],
          ((adjusting k p.1 p.2.1 p.2.2).carousel 0).cfg.station = some 0
            ∧ ((adjusting k p.1 p.2.1 p.2.2).carousel 0).face = some ⟨19, none, none, false⟩
            ∧ ((adjusting k p.1 p.2.1 p.2.2).carousel 0).phase = some { phase3 p.1 p.2.1 p.2.2 with mode := .adjust }
            ∧ look (phase3 p.1 p.2.1 p.2.2).bays 3 = some ⟨.carrier, 5, p.1, p.2.1, p.2.2, 0, none⟩
            ∧ look (phase3 p.1 p.2.1 p.2.2).bays 2 = some ⟨.carrier, 0, 0, none, none, 1, none⟩
            ∧ ((adjusting k p.1 p.2.1 p.2.2).bay ⟨0, 19, 3⟩).lot = some ⟨5, 6, 7, 100⟩
            ∧ (adjusting k p.1 p.2.1 p.2.2).stackLimitOf ⟨0, 19, 3⟩ = 9)
      ∧ ((adjusting .pick 1 (some 1) none).bay ⟨0, 19, 3⟩).reserved = 3
      ∧ ((adjusting .pick 1 (some 9) none).bay ⟨0, 19, 3⟩).incoming = 0
      ∧ ((adjusting .put 1 (some 9) none).bay ⟨0, 19, 3⟩).incoming = 3
      ∧ (adjusting .pick 1 (some 1) none).queuedOnBay ⟨0, 19, 3⟩ .pick ≠ []
      ∧ (adjusting .pick 1 (some 1) none).task 255
          = some ⟨.pick, ⟨0, 19, 3⟩, 3, some ⟨31, 0, none, false⟩, 7, .queued⟩) :=
  ⟨fun k a f g => adjusting_ready k a f g _,
    fun k a f g t z h => (by rw [adjusting_task k a f g t z h]; cases k <;> simp), by decide +kernel⟩

theorem test_witness_AHandedOverAuditBeginsAPhase :
    ((faceBase false).carousel 0).cfg.station = some 0 ∧ ((faceBase false).carousel 0).face = some ⟨19, none, none, false⟩
      ∧ (sweep1.scope.bayList.filter fun b => !((faceBase false).bay ⟨0, 19, b⟩).disputed) ≠ []
      ∧ (sweep1.scope.bayList.filter fun b => !((faceBase false).bay ⟨0, 19, b⟩).disputed).length
          ≤ (faceBase false).freeEntries.length := by decide +kernel

/-- Each decision with an assigned bay and with an EMPTY one; a counted value above the stack limit of a width of 500 and
one within it; fields at the ends of their domains, fields of 0 for the other decisions, and values outside. -/
theorem test_witness_RecordsAreAcknowledgedAndResolved :
    (∀ x l, (disc31 x l).readyFor stockPort) ∧ (State.reset.disc 31 = .free
      ∧ (disc31 .opened none).disc 31 = .record (record1 .opened) ∧ (record1 .opened).state = .opened
      ∧ (disc31 .adjusted none).disc 31 = .record (record1 .adjusted) ∧ (record1 .adjusted).state = .adjusted
      ∧ ((disc31 .opened (some ⟨5, 6, 7, 500⟩)).bay ⟨0, 19, 3⟩).lot ≠ none ∧ ((disc31 .opened none).bay ⟨0, 19, 3⟩).lot = none
      ∧ (record1 .opened).counted ≤ (disc31 .opened (some ⟨5, 6, 7, 500⟩)).stackLimitOf ⟨0, 19, 3⟩
      ∧ (disc31 .opened (some ⟨5, 6, 7, 901⟩)).stackLimitOf ⟨0, 19, 3⟩ < (record1 .opened).counted
      ∧ (record1 .opened).counted ≤ stackLimit ((disc31 .opened none).carousel 0).cfg.bayHeight (500 : BitVec 16).toNat
      ∧ stackLimit 200 (500 : BitVec 16).toNat < (record1 .opened).counted
      ∧ 1 ≤ (1 : BitVec 24).toNat ∧ (999999 : BitVec 24).toNat ≤ 999999 ∧ 1 ≤ (1 : BitVec 16).toNat
      ∧ (4095 : BitVec 16).toNat ≤ 4095 ∧ (1000 : BitVec 16).toNat ≤ 1000 ∧ 100 ≤ (100 : BitVec 16).toNat
      ∧ (500 : BitVec 16).toNat ≤ 500 ∧ (∀ d ∈ [0, 1, 3], d ≤ 3 ∧ d ≠ 2) ∧ 3 < 4 ∧ (0 : BitVec 24).toNat < 1
      ∧ 4095 < (4096 : BitVec 16).toNat ∧ (99 : BitVec 16).toNat < 100) :=
  ⟨fun x l => disc31_ready x l _, by decide +kernel⟩

/-! ### Links, configuration and start-up -/

theorem test_witness_WireFormsTheFrame : (Instr.pickConfirm ⟨2, 0x3F⟩ 23 2).wellFormed = true
    ∧ (Instr.pickConfirm ⟨2, 0x3F⟩ 23 2).request? = some (⟨2, 0x3F⟩, .pickConfirm, [23, 2])
    ∧ (State.reset.port 2).receiver = .hunting := by decide +kernel

/-- L11 in a state of its own. -/
def port11 (f : Port → Port) : State := State.reset.modPort 11 f

/-- Lengths 1, 2, 100 and 101; a frame one character short of its end, and at its last one. -/
theorem test_witness_CharactersAreAssembledIntoFrames :
    State.reset.part ≠ .halted ∧ (State.reset.port 11).receiver = .hunting
      ∧ ((port11 fun x => { x with receiver := .assembling [] false }).port 11).receiver = .assembling [] false
      ∧ (1 : Byte).toNat < 2 ∧ 2 ≤ (2 : Byte).toNat ∧ (100 : Byte).toNat ≤ 100 ∧ 100 < (101 : Byte).toNat
      ∧ ((port11 fun x => { x with receiver := .assembling [2, 1] true }).port 11).receiver = .assembling (2 :: [1]) true
      ∧ ([1] : List Byte).length + 1 < (2 : Byte).toNat + 2 ∧ ([1, 0, 0] : List Byte).length + 1 = (2 : Byte).toNat + 2
      ∧ (Receiver.assembling [] false ≠ .hunting) := by decide +kernel

/-- A response that waits. -/
def waiting : Response := ⟨0x81, 0, .done, {}, []⟩

def frame98 : Frame := ⟨0x05, 0, List.replicate 98 0⟩

/-- A payload of 98; a full buffer, a waiting response, neither; each check of the dispatcher in turn. -/
theorem test_witness_GoodFramesWaitOrAreChecked :
    State.reset.part ≠ .halted ∧ frame98.payload.length ≤ 98
      ∧ ((port11 fun x => { x with buffer := some frame98 }).port 11).buffer ≠ none
      ∧ ((port11 fun x => { x with slot := some waiting }).port 11).buffer = none
      ∧ ((port11 fun x => { x with slot := some waiting }).port 11).slot ≠ none
      ∧ (State.reset.port 0).buffer = none ∧ (State.reset.port 0).slot = none ∧ (State.reset.port 0).inProcess = false
      ∧ RequestCode.ofByte 0 = none ∧ RequestCode.ofByte 0x05 = some .readStatus ∧ RequestCode.allowedOn 11 .readStatus = false
      ∧ parseRequest .readStatus frame98.payload = none ∧ parseRequest .resume [0] = some (.resume 0)
      ∧ RequestCode.allowedOn (stationPort 3) .resume = true ∧ requestCarousel? (.resume 0) = some 0
      ∧ (State.reset.carousel 0).cfg.station.map stationPort ≠ some (stationPort 3) := by decide +kernel

/-- Queues of 8 and of 7; a busy, a held and a free transmitter; a response, a notice and nothing to send. -/
theorem test_witness_NoticesQueueBehindResponses :
    let x := State.reset.port 11
    let full : Port := { x with queue := List.replicate 8 .stop, sending := some (.notice .stop) }
    let seven : Port := { x with queue := List.replicate 7 .stop }
    8 ≤ full.queue.length ∧ seven.queue.length < 8 ∧ full.sending ≠ none ∧ x.sending = none ∧ x.held = false ∧ x.slot = none
      ∧ seven.queue ++ [.stop] = .stop :: List.replicate 7 .stop ∧ x.queue = []
      ∧ ({ x with slot := some waiting } : Port).slot = some waiting := by decide +kernel

theorem test_witness_FrameSentAndHoldInputDriveTheTransmitter :
    State.reset.part ≠ .halted ∧ (State.reset.port 11).sending = none ∧ (11 : PortId) ≠ stockPort
      ∧ ((port11 fun x => { x with sending := some (.response waiting) }).port 11).sending ≠ none
      ∧ ((port11 fun x => { x with sending := some (.response waiting) }).port 11).buffer = none
      ∧ ((port11 fun x => { x with sending := some (.response waiting), buffer := some frame98 }).port 11).buffer = some frame98
      ∧ (({ (port11 fun x => { x with sending := some (.response waiting), buffer := some frame98 }).port 11 with
          sending := none } : Port).startNext).slot = none
      ∧ ({ State.reset with part := .halted } : State).part = .halted := by decide +kernel

/-- Every item at a value of its range, each taken from reset. -/
def items : List (ConfigItem × Nat) :=
  [(.carrierCount 5, 8), (.carrierCount 5, 40), (.bayHeight 5, 200), (.bayHeight 5, 1500), (.payloadLimit 5, 100),
   (.payloadLimit 5, 8000), (.putLimit 5, 0), (.putLimit 5, 9000), (.hardLimit 5, 6000), (.hardLimit 5, 160000),
   (.timingProfile 5, 0), (.timingProfile 5, 3), (.station 5, 0), (.station 5, 3), (.station 5, 255), (.baseTime 3, 0),
   (.baseTime 3, 600), (.stepTime 3, 1), (.stepTime 3, 255), (.permits, 1), (.permits, 6), (.laneCapacity, 4),
   (.laneCapacity, 64), (.orderOpenTime, 100), (.orderOpenTime, 6000), (.shortPickMode, 0), (.shortPickMode, 1)]

theorem test_witness_ConfigureWritesOneItem :
    State.reset.readyFor stockPort ∧ ((∀ x ∈ items, itemInRange x.2 x.1 = true) ∧ (∀ x ∈ items, State.reset.itemIdle x.1 = true)
      ∧ (∀ x ∈ items, State.reset.itemFits x.2 x.1 = true) ∧ (∀ x ∈ items, State.reset.itemBusy x.1 = false)
      ∧ (State.reset.carousel 5).bare = true) :=
  ⟨ready_reset _, by decide +kernel⟩

/-- Values just outside their ranges, and a state for each later check. -/
theorem test_witness_ConfigureIsCheckedInOrder :
    (State.reset.readyFor stockPort ∧ (∀ x, (at0 x).readyFor stockPort) ∧ (∀ x q t, (lane31 x q t).readyFor stockPort)
        ∧ ∀ x d, (loaded x d).readyFor stockPort)
      ∧ (itemInRange 41 (.carrierCount 0) = false ∧ itemInRange 199 (.bayHeight 0) = false ∧ itemInRange 7 .permits = false
        ∧ itemInRange 8 (.carrierCount 0) = true ∧ itemCarousel? (.carrierCount 0) = some 0
        ∧ ((at0 .idle).motion 0).state ∉ [MotionState.offline, .withdrawn] ∧ itemInRange 4 .laneCapacity = true
        ∧ ((lane31 .filling 1 ⟨1, 0, 0, 0⟩).lane 31).state ≠ .free ∧ ((loaded .offline false).bay ⟨0, 19, 3⟩).lot ≠ none
        ∧ ((loaded .offline false).bay ⟨0, 19, 3⟩).lot = some ⟨5, 6, 7, 500⟩ ∧ itemInRange 200 (.bayHeight 0) = true
        ∧ stackLimit 200 500 < 1 ∧ itemInRange 160000 (.putLimit 0) = true ∧ (State.reset.carousel 0).cfg.hardLimit < 160000
        ∧ itemInRange 0 (.hardLimit 0) = true ∧ 0 < (State.reset.carousel 0).cfg.putLimit
        ∧ ((at0 .suspended).motion 0).state ∈ [MotionState.moving, .stopping, .suspended]
        ∧ itemInRange 1 (.stepTime ((at0 .suspended).carousel 0).cfg.profile) = true ∧ itemInRange 6 .permits = true) :=
  ⟨⟨ready_reset _, fun x => at0_ready x _ _, fun x q t => lane31_ready x q t 0 none _, fun x d => loaded_ready x d _⟩,
    by decide +kernel⟩

/-- The RESTART response is being sent on L0. -/
def restarting : State := State.reset.modPort 0 fun x => { x with sending := some (.response ⟨0x86, 7, .done, {}, []⟩) }

theorem test_witness_RestartsBeginAndEnd :
    (State.reset.readyFor stockPort ∧ restarting.readyFor stockPort) ∧ (restarting.sendingRestart = true
      ∧ State.reset.sendingRestart = false ∧ State.reset.restartAsserted = false
      ∧ ({ State.reset with restartAsserted := true } : State).restartAsserted = true ∧ State.reset.part = .running
      ∧ (State.reset.warmRestart .restartInput).part = .starting (Vector.replicate 6 false)) :=
  ⟨⟨ready_reset _, ready_reset _⟩, by decide +kernel⟩

theorem test_witness_AWarmRestartKeepsTheBook : (State.reset.carousel 0).cfg.legal := reset_balance.1

theorem test_witness_PowerOnAndPowerOnReset :
    let s : State := { State.reset with part := .halted }
    s.part = .halted ∧ s.pending = []
      ∧ (Instr.readStatus ⟨0, 0⟩).request? = some (⟨0, 0⟩, .readStatus, []) := by decide +kernel

theorem test_witness_WithdrawLetsGoOfTheCarousel :
    (∀ x k, (at0 x k).readyFor stockPort) ∧ (∀ t x, (at0 .idle).task t = some x → x.bay.carousel = 0 → x.state = .queued)
      ∧ (((at0 .withdrawn).motion 0).state ∈ [MotionState.offline, .withdrawn]
        ∧ ((at0 .idle).motion 0).state ∉ [MotionState.offline, .withdrawn] ∧ ((at0 .idle).carousel 0).face = none
        ∧ ((at0 .idle).carousel 0).phase = none
        ∧ ((face0 .pick .presented 3 false).motion 0).state ∉ [MotionState.offline, .withdrawn]
        ∧ ((face0 .pick .presented 3 false).carousel 0).face ≠ none) :=
  ⟨fun x k => at0_ready x k _, fun t x h => (by
    have e : State.reset.task t = some x := h
    rw [no_task] at e
    cases e),
    by decide +kernel⟩

/-! ### The invariants: C0 is IDLE, one notice waits behind another, and HOLD is the command -/

def running0 : State :=
  { ((at0 .idle).modCarousel 0 fun x => { x with calls := [⟨1, 0, 8, none, false⟩] }).modPort 0 (fun x =>
      { x with sending := some (.notice .stop), queue := [.stop] }) with pending := [.hold ⟨0, 1⟩ 0 1] }

theorem running0_steps : ∃ t, step running0 = .next t := ⟨_, rfl⟩

theorem test_witness_EveryStepKeepsThePermitLimit : running0.permitsBounded ∧ ∃ t, step running0 = .next t :=
  ⟨by unfold State.permitsBounded; decide +kernel, running0_steps⟩

theorem test_witness_EveryStepKeepsTheCallQueues :
    running0.oneCallPerCarrier ∧ running0.passesBounded ∧ ∃ t, step running0 = .next t :=
  ⟨by unfold State.oneCallPerCarrier Carousel.oneCallPerCarrier; decide +kernel,
    by unfold State.passesBounded; decide +kernel, running0_steps⟩

theorem test_witness_EveryStepKeepsTheQueuesAtEight : running0.queuesBounded ∧ ∃ t, step running0 = .next t :=
  ⟨by unfold State.queuesBounded; decide +kernel, running0_steps⟩

theorem test_witness_EveryStepKeepsTheConfigurationLegal : running0.configLegal ∧ ∃ t, step running0 = .next t :=
  ⟨by unfold State.configLegal Globals.legal CarouselConfig.legal; decide +kernel, running0_steps⟩

theorem test_witness_EveryStepKeepsTheMotionRecordsRight : running0.motionRight ∧ ∃ t, step running0 = .next t :=
  ⟨by unfold State.motionRight Carousel.motionRight; decide +kernel, running0_steps⟩

theorem test_witness_EveryStepKeepsPresentedTasksAtTheFace : running0.presentedAtFace ∧ ∃ t, step running0 = .next t :=
  ⟨⟨by decide +kernel, fun t x h => (by
    have e : State.reset.task t = some x := h
    rw [no_task] at e
    cases e)⟩, running0_steps⟩

theorem test_witness_EveryStepKeepsOverweightTrue : running0.overweightRight ∧ ∃ t, step running0 = .next t :=
  ⟨by unfold State.overweightRight; decide +kernel, running0_steps⟩

end Sys2Proof.Tests
end

/-! The placeable count (R29): what one step of the downward search answers, and what its result says. -/

namespace Sys2Proof.Machine

section PlaceableCount

variable {n c u limit : Nat} {entries : Vector Int 20}

/-- The balance test of R28 for a put of m tyres of unit mass u, as the search makes it. -/
def PutPasses (n c : Nat) (entries : Vector Int 20) (u limit m : Nat) : Prop :=
  resultingPeak n c entries ((m * u : Nat) : Int) ≤ limit

@[simp] theorem placeable_zero : placeable n c entries u limit 0 = none := rfl

theorem placeable_succ_of_passes {m : Nat} (pass : PutPasses n c entries u limit (m + 1)) :
    placeable n c entries u limit (m + 1)
      = some (m + 1, resultingPeak n c entries (((m + 1) * u : Nat) : Int)) :=
  if_pos pass

theorem placeable_succ_of_not_passes {m : Nat} (fail : ¬ PutPasses n c entries u limit (m + 1)) :
    placeable n c entries u limit (m + 1) = placeable n c entries u limit m :=
  if_neg fail

/-- A failed test moves the upper end of the failing counts one up. -/
theorem not_passes_up_to_succ {low m : Nat} (fail : ¬ PutPasses n c entries u limit (m + 1))
    (below : ∀ k, low < k → k ≤ m → ¬ PutPasses n c entries u limit k) :
    ∀ k, low < k → k ≤ m + 1 → ¬ PutPasses n c entries u limit k := by
  intro k above bound
  rcases Nat.le_or_eq_of_le_succ bound with inside | rfl
  · exact below k above inside
  · exact fail

theorem largest_passes_of_placeable_some {n0 m peak : Nat} (found : placeable n c entries u limit n0 = some (m, peak)) :
    1 ≤ m ∧ m ≤ n0 ∧ PutPasses n c entries u limit m ∧ peak = resultingPeak n c entries ((m * u : Nat) : Int)
      ∧ ∀ k, m < k → k ≤ n0 → ¬ PutPasses n c entries u limit k := by
  induction n0 with
  | zero => simp at found
  | succ top ih =>
    by_cases pass : PutPasses n c entries u limit (top + 1)
    · rw [placeable_succ_of_passes pass] at found
      obtain ⟨rfl, rfl⟩ : top + 1 = m ∧ _ = peak := by simpa using found
      exact ⟨by omega, le_rfl, pass, rfl, fun k above bound => absurd bound (by omega)⟩
    · rw [placeable_succ_of_not_passes pass] at found
      obtain ⟨positive, bound, passes, peakEq, largest⟩ := ih found
      exact ⟨positive, by omega, passes, peakEq, not_passes_up_to_succ pass largest⟩

theorem not_passes_of_placeable_none {n0 : Nat} (missed : placeable n c entries u limit n0 = none) :
    ∀ k, 0 < k → k ≤ n0 → ¬ PutPasses n c entries u limit k := by
  induction n0 with
  | zero => exact fun k positive bound => absurd bound (by omega)
  | succ top ih =>
    by_cases pass : PutPasses n c entries u limit (top + 1)
    · rw [placeable_succ_of_passes pass] at missed
      cases missed
    · rw [placeable_succ_of_not_passes pass] at missed
      exact not_passes_up_to_succ pass (ih missed)

end PlaceableCount

/-- Settles O16, by induction on the upper bound: each step of the search either stops at a passing count or rules out
the highest one left (R29). -/
theorem thePlaceableCountIsTheLargestThatPasses : Obligations.ThePlaceableCountIsTheLargestThatPasses :=
  fun _ _ _ _ _ _ => ⟨fun _ _ => largest_passes_of_placeable_some, not_passes_of_placeable_none⟩

end Sys2Proof.Machine

/-! What the checks and the blocks leave of a request that reaches a ready port (R153, R154): a refusal changes nothing
but the ports, an answered request leaves its block's work. -/

namespace Sys2Proof

theorem index?_eq_none {n : Nat} {v : Byte} (outside : n ≤ v.toNat) : index? n v = none := dif_neg (by omega)

theorem parse_enrol_outside {v : Byte} (outside : 5 < v.toNat) : parseRequest .enrol [v] = none := by
  show (index? 6 v).map _ = none
  rw [index?_eq_none outside, Option.map_none]

theorem parse_resume_outside {v : Byte} (outside : 5 < v.toNat) : parseRequest .resume [v] = none := by
  show (index? 6 v).map _ = none
  rw [index?_eq_none outside, Option.map_none]

namespace Machine

/-- A command that brings a request's good frame to a ready port whose role allows it: the dispatcher comes to check 3
of Table 9-1. -/
structure Admitted (s : State) (i : Instr) (h : Header) (code : RequestCode) (payload : List Byte) : Prop where
  runs : exec i s = .next (s.request h code payload)
  ready : s.readyFor h.port
  fits : payload.length ≤ Config.maxPayload
  allowed : code.allowedOn h.port = true

section Requests

variable {s : State} {i : Instr} {h : Header} {code : RequestCode} {payload : List Byte} {r : Request}

theorem accepted_isStarting {p : PortId} (ready : s.readyFor p) : (s.accepted p).isStarting = false := by
  have running : (s.accepted p).part = .running := ready.1
  simp [State.isStarting, running]

theorem Admitted.exec_eq_serve (a : Admitted s i h code payload) :
    exec i s = .next ((s.accepted h.port).serve h.port ⟨code.byte, h.tag, payload⟩).settle := by
  rw [a.runs, State.request, operation_running _ _ a.ready.1,
    endFrame_ready s h.port a.ready _ (by simpa [Frame.wellFormed] using a.fits)]

theorem Admitted.exec_eq_take (a : Admitted s i h code payload) (read : parseRequest code payload = some r)
    (may : s.stationMay h.port r = true) :
    exec i s = .next ((s.accepted h.port).take ⟨h.port, code.byte, h.tag⟩ r).settle := by
  rw [a.runs, request_taken s h code payload r a.ready a.fits a.allowed read may]

/-- A refused request leaves its response and nothing else, whichever check refuses it (R154, R155). -/
theorem completes_of_refuse {outcome : ReplyCode}
    (refused : exec i s = .next ((s.accepted h.port).refuse ⟨h.port, code.byte, h.tag⟩ outcome).settle) :
    Completes i s h code outcome [] [] s := by
  refine ⟨(s.accepted h.port).refuse ⟨h.port, code.byte, h.tag⟩ outcome, ?_, by simp, ?_⟩
  · rw [refused, settle_of_nothing_due _ (by rw [State.refuse, respond_due, accepted_due])]
  · exact respond_portAfter s h code [] outcome [] (s.accepted h.port) (accepted_port s h.port)

theorem Admitted.completes_badForm (a : Admitted s i h code payload) (unread : parseRequest code payload = none) :
    Completes i s h code .badForm [] [] s :=
  completes_of_refuse (by rw [a.exec_eq_serve]; simp [State.serve, a.allowed, accepted_isStarting a.ready, unread])

theorem Admitted.completes_deniedRole (a : Admitted s i h code payload) (read : parseRequest code payload = some r)
    (barred : s.stationMay h.port r = false) : Completes i s h code .deniedRole [] [] s := by
  have barred' : (s.accepted h.port).stationMay h.port r = false := barred
  exact completes_of_refuse
    (by rw [a.exec_eq_serve]; simp [State.serve, a.allowed, accepted_isStarting a.ready, read, barred'])

theorem Admitted.completes_of_take_refuse {outcome : ReplyCode} (a : Admitted s i h code payload)
    (read : parseRequest code payload = some r) (may : s.stationMay h.port r = true)
    (refuses : (s.accepted h.port).take ⟨h.port, code.byte, h.tag⟩ r
      = (s.accepted h.port).refuse ⟨h.port, code.byte, h.tag⟩ outcome) :
    Completes i s h code outcome [] [] s :=
  completes_of_refuse (by rw [a.exec_eq_take read may, refuses])

/-- A request whose block does the work `y`, makes nothing due and answers. -/
theorem Admitted.completes_of_take_respond {outcome : ReplyCode} {body : List Byte} {posts : List (PortId × Notice)}
    {u : State} (y : State) (a : Admitted s i h code payload) (read : parseRequest code payload = some r)
    (may : s.stationMay h.port r = true)
    (answers : (s.accepted h.port).take ⟨h.port, code.byte, h.tag⟩ r
      = y.respond ⟨h.port, code.byte, h.tag⟩ outcome body)
    (nothingDue : y.due = {}) (inner : y.inner = u.inner)
    (ports : ∀ q, y.port q = postsTo posts q ((s.accepted h.port).port q)) :
    Completes i s h code outcome body posts u :=
  (completesThen_of s y a.runs a.ready a.fits a.allowed read may answers nothingDue inner
    fun q => by rw [ports, accepted_port]).completes

end Requests

end Machine

end Sys2Proof

/-! ENROL and READY (R98, R112): each takes its carousel to UNSYNCED, or is refused. -/

namespace Sys2Proof.Machine

section Unsync

variable {s : State} {c : CarouselId} {h : Header}

/-- R98 as one equation: the states and the station that ENROL asks for. -/
theorem takeEnrol_eq (rt : ReplyTo) :
    s.takeEnrol rt c
      = if ((s.carousel c).motion.state = .offline ∨ (s.carousel c).motion.state = .withdrawn)
          ∧ (s.carousel c).cfg.station ≠ none then
        ((s.modMotion c Motion.unsync).postCarousel c).respond rt .done []
      else s.refuse rt .wrongState := by
  simp only [State.takeEnrol, outOfService_iff, Option.isSome_iff_ne_none]

theorem admitted_enrol (ready : s.readyFor h.port) (stock : h.port = stockPort) (v : Byte) :
    Admitted s (.enrol h v) h .enrol [v] :=
  ⟨rfl, ready, Nat.le_of_ble_eq_true rfl, by rw [stock]; rfl⟩

theorem admitted_ready (ready : s.readyFor h.port) (drive : h.port = drivePort c) :
    Admitted s (.ready h) h .ready [] :=
  ⟨rfl, ready, Nat.le_of_ble_eq_true rfl, by rw [drive]; exact isDrivePort_drivePort c⟩

/-- A request whose block takes the carousel to UNSYNCED (R98, R112). -/
theorem Admitted.completes_of_take_unsync {i : Instr} {code : RequestCode} {payload : List Byte} {r : Request}
    (a : Admitted s i h code payload) (read : parseRequest code payload = some r)
    (may : s.stationMay h.port r = true)
    (answers : (s.accepted h.port).take ⟨h.port, code.byte, h.tag⟩ r
      = (((s.accepted h.port).modMotion c Motion.unsync).postCarousel c).respond ⟨h.port, code.byte, h.tag⟩ .done []) :
    Completes i s h code .done []
      [(stockPort, .carousel c .unsynced none (s.carousel c).motion.hold (s.carousel c).balance.overweight
        (s.carousel c).balance.peak)]
      (s.modMotion c Motion.unsync) := by
  refine a.completes_of_take_respond _ read may answers (by simp) ?_ fun q => ?_
  · rw [postCarousel_inner, modMotion_inner, modMotion_inner, accepted_inner]
  · simp [postCarousel_eq, post_port, carouselNotice, postsTo_cons, Motion.unsync, Motion.rest]

end Unsync

/-- Settles O1, request by request: each has one equation for when its block takes it, and both taken blocks do the same
work, `Motion.unsync` with a CAROUSEL notice (R98, R112). -/
theorem enrolAndReadyTakeACarouselToUnsynced : Obligations.EnrolAndReadyTakeACarouselToUnsynced := by
  refine ⟨fun h c s ready stock => ?enrol, fun h c s ready drive => ?ready, fun h v s ready stock outside => ?badForm⟩
  case enrol =>
    have admitted := admitted_enrol ready stock (byteOf c.val)
    have block := takeEnrol_eq (s := s.accepted h.port) (c := c) ⟨h.port, RequestCode.enrol.byte, h.tag⟩
    rw [accepted_carousel] at block
    intro x
    by_cases taken : (x.motion.state = .offline ∨ x.motion.state = .withdrawn) ∧ x.cfg.station ≠ none
    · rw [if_pos taken]
      exact admitted.completes_of_take_unsync (parse_enrol c) rfl (block.trans (if_pos taken))
    · rw [if_neg taken]
      exact admitted.completes_of_take_refuse (parse_enrol c) rfl (block.trans (if_neg taken))
  case ready =>
    have admitted := admitted_ready ready drive
    have sender : driveCarousel h.port = c := by rw [drive, driveCarousel_drivePort]
    intro x
    by_cases faulted : x.motion.state = .faulted
    · rw [if_pos faulted]
      refine admitted.completes_of_take_unsync (r := .ready) rfl rfl ?_
      simp only [State.take, sender]
      exact if_pos faulted
    · rw [if_neg faulted]
      refine admitted.completes_of_take_refuse (r := .ready) rfl rfl ?_
      simp only [State.take, sender]
      exact if_neg faulted
  case badForm => exact (admitted_enrol ready stock v).completes_badForm (parse_enrol_outside outside)

end Sys2Proof.Machine

/-! RESUME (R108): when it is refused, and the two ways a taken one goes on. -/

namespace Sys2Proof.Machine

section Resume

variable {s : State} {c : CarouselId} {h : Header} {st : StationId} {k : Choice} {offset : Nat}

theorem takeResume_of_not_waiting (rt : ReplyTo)
    (notWaiting : (s.motion c).state ≠ .suspended ∨ (s.motion c).guardLatch = .opened) :
    s.takeResume rt c = s.refuse rt .wrongState := by
  refine if_neg fun waiting => ?_
  obtain ⟨suspended, closed⟩ := waiting
  rcases notWaiting with moved | opened
  · exact moved suspended
  · rw [closed] at opened
    cases opened

theorem takeResume_of_waiting (rt : ReplyTo) (suspended : (s.motion c).state = .suspended)
    (closed : (s.motion c).guardLatch = .closed) (chosen : (s.motion c).chosen = some k) :
    s.takeResume rt c = (s.resumeMove c k).respond rt .done [] := by
  simp [State.takeResume, suspended, closed, chosen]

theorem resumeMove_of_away (held : (s.motion c).held = some offset)
    (away : 0 < (rotation (s.carousel c).cfg.n offset k.target).2) : s.resumeMove c k = s.startMove c k.target := by
  refine if_neg ?_
  rw [held]
  exact away.ne'

theorem resumeMove_of_at_target (held : (s.motion c).held = some offset)
    (atTarget : (rotation (s.carousel c).cfg.n offset k.target).2 = 0) :
    s.resumeMove c k = s.startPresentation c k.carrier := by
  refine if_pos ?_
  rw [held]
  exact atTarget

theorem admitted_resume (ready : s.readyFor h.port) (station : h.port = stationPort st) (v : Byte) :
    Admitted s (.resume h v) h .resume [v] :=
  ⟨rfl, ready, Nat.le_of_ble_eq_true rfl, by rw [station]; exact isStationPort_stationPort st⟩

theorem stationPort_injective : Function.Injective stationPort := by
  unfold Function.Injective
  decide

/-- Check 5 of R154 for RESUME: only the carousel's own station may send it. -/
theorem stationMay_resume_iff :
    s.stationMay (stationPort st) (.resume c) = true ↔ (s.carousel c).cfg.station = some st := by
  show decide _ = true ↔ _
  rw [decide_eq_true_iff]
  exact (Option.map_injective stationPort_injective).eq_iff (b := some st)

/-- A taken RESUME away from the target: the MOVE by the rotation from the held offset (R32, R108). -/
theorem Admitted.completes_resume_away (a : Admitted s (.resume h (byteOf c.val)) h .resume [byteOf c.val])
    (may : s.stationMay h.port (.resume c) = true) (suspended : (s.motion c).state = .suspended)
    (closed : (s.motion c).guardLatch = .closed) (chosen : (s.motion c).chosen = some k)
    (held : (s.motion c).held = some offset) {way : Direction × Nat}
    (worked : rotation (s.carousel c).cfg.n offset k.target = way) (away : 0 < way.2) :
    Completes (.resume h (byteOf c.val)) s h .resume .done [] [(drivePort c, .move k.target way.1 way.2)]
      (s.modMotion c fun m =>
        { m with state := .moving, lastMove := some ⟨way.1, way.2⟩, moveTimer := some (s.moveTimeout c way.2) }) := by
  subst worked
  refine a.completes_of_take_respond ((s.accepted h.port).startMove c k.target) (parse_resume c) may ?_
    (startMove_due _ c k.target) ?_ fun q => ?_
  · rw [State.take, takeResume_of_waiting (s := s.accepted h.port) _ suspended closed chosen,
      resumeMove_of_away (s := s.accepted h.port) held away]
  · rw [startMove_inner, accepted_motion, held, modMotion_inner]
    rfl
  · rw [startMove_port, accepted_motion, accepted_carousel, held, postsTo_cons, postsTo_nil]
    rfl

end Resume

/-- Settles O6: RESUME has one lemma for its refusal and one for each way a taken one goes on, and the checks before the
block refuse a bad carousel number and another station's carousel (R108, R154). -/
theorem resumeWorksTheMoveAgain : Obligations.ResumeWorksTheMoveAgain := by
  refine ⟨fun h c st s ready station own => ?block, fun h st s ready station => ⟨fun v outside => ?badForm,
    fun c foreign => ?deniedRole⟩⟩
  case block =>
    have admitted := admitted_resume ready station (byteOf c.val)
    have may : s.stationMay h.port (.resume c) = true := by rw [station]; exact stationMay_resume_iff.mpr own
    refine ⟨fun notWaiting => ?_, fun k offset suspended closed chosen held => ⟨fun away => ?_, fun atTarget => ?_⟩⟩
    · exact admitted.completes_of_take_refuse (parse_resume c) may (takeResume_of_not_waiting _ notWaiting)
    · exact admitted.completes_resume_away may suspended closed chosen held rfl away
    · rw [admitted.exec_eq_take (parse_resume c) may, State.take,
        takeResume_of_waiting (s := s.accepted h.port) _ suspended closed chosen,
        resumeMove_of_at_target (s := s.accepted h.port) held atTarget]
  case badForm => exact (admitted_resume ready station v).completes_badForm (parse_resume_outside outside)
  case deniedRole =>
    refine (admitted_resume ready station (byteOf c.val)).completes_deniedRole (parse_resume c) ?_
    rw [station, Bool.eq_false_iff]
    exact stationMay_resume_iff.not.mpr foreign

end Sys2Proof.Machine

/-! LANE_RELEASE and LANE_EMPTY (R126, R127): the lanes each takes and what the lane is afterwards. -/

namespace Sys2Proof.Machine

theorem parse_laneRelease_outside {v : Byte} (outside : 31 < v.toNat) : parseRequest .laneRelease [v] = none := by
  show (index? 32 v).map _ = none
  rw [index?_eq_none outside, Option.map_none]

theorem parse_laneEmpty_outside {v : Byte} (outside : 31 < v.toNat) : parseRequest .laneEmpty [v] = none := by
  show (index? 32 v).map _ = none
  rw [index?_eq_none outside, Option.map_none]

section LaneEnd

variable {s : State} {l : LaneId} {h : Header}

/-- A lane as LANE_RELEASE leaves it (R126). -/
def Lane.released (origin : ReleasedFrom) (x : Lane) : Lane :=
  { x with state := .released, releasedFrom := some origin }

theorem takeLaneRelease_of_complete (rt : ReplyTo) (noStray : (s.lane l).strays = 0)
    (complete : (s.lane l).state = .complete) :
    s.takeLaneRelease rt l = (s.modLane l (Lane.released .complete)).respond rt .done [] := by
  simp only [State.takeLaneRelease, noStray, complete, ne_eq, not_true_eq_false, if_false]
  rfl

theorem takeLaneRelease_of_cancelled (rt : ReplyTo) (noStray : (s.lane l).strays = 0)
    (cancelled : (s.lane l).state = .cancelled) :
    s.takeLaneRelease rt l = (s.modLane l (Lane.released .cancelled)).respond rt .done [] := by
  simp only [State.takeLaneRelease, noStray, cancelled, ne_eq, not_true_eq_false, if_false]
  rfl

/-- R126: a lane that counts a stray, or is neither COMPLETE nor CANCELLED, is not released. -/
theorem takeLaneRelease_of_unfinished (rt : ReplyTo)
    (notComplete : ¬ ((s.lane l).strays = 0 ∧ (s.lane l).state = .complete))
    (notCancelled : ¬ ((s.lane l).strays = 0 ∧ (s.lane l).state = .cancelled)) :
    s.takeLaneRelease rt l = s.refuse rt .wrongState := by
  by_cases noStray : (s.lane l).strays = 0
  · cases state : (s.lane l).state with
    | complete => exact absurd ⟨noStray, state⟩ notComplete
    | cancelled => exact absurd ⟨noStray, state⟩ notCancelled
    | free | opened | filling | cancelling | released => simp [State.takeLaneRelease, noStray, state]
  · exact if_pos noStray

theorem takeLaneEmpty_of_released (rt : ReplyTo) (released : (s.lane l).state = .released) :
    s.takeLaneEmpty rt l
      = ((s.post stockPort (.orderState l (s.lane l).ref (orderEndOf (s.lane l).releasedFrom))).modLane l
          fun _ => Lane.cleared).respond rt .done [] :=
  if_pos released

theorem takeLaneEmpty_of_not_released (rt : ReplyTo) (notReleased : (s.lane l).state ≠ .released) :
    s.takeLaneEmpty rt l = s.refuse rt .wrongState :=
  if_neg notReleased

theorem admitted_laneRelease (ready : s.readyFor h.port) (lane : h.port = lanePort) (v : Byte) :
    Admitted s (.laneRelease h v) h .laneRelease [v] :=
  ⟨rfl, ready, Nat.le_of_ble_eq_true rfl, by rw [lane]; rfl⟩

theorem admitted_laneEmpty (ready : s.readyFor h.port) (lane : h.port = lanePort) (v : Byte) :
    Admitted s (.laneEmpty h v) h .laneEmpty [v] :=
  ⟨rfl, ready, Nat.le_of_ble_eq_true rfl, by rw [lane]; rfl⟩

/-- A taken LANE_RELEASE: the lane alone changes and no notice is posted (R126). -/
theorem Admitted.completes_laneRelease {origin : ReleasedFrom}
    (a : Admitted s (.laneRelease h (byteOf l.val)) h .laneRelease [byteOf l.val])
    (answers : (s.accepted h.port).takeLaneRelease ⟨h.port, RequestCode.laneRelease.byte, h.tag⟩ l
      = ((s.accepted h.port).modLane l (Lane.released origin)).respond ⟨h.port, RequestCode.laneRelease.byte, h.tag⟩
          .done []) :
    Completes (.laneRelease h (byteOf l.val)) s h .laneRelease .done [] [] (s.modLane l (Lane.released origin)) :=
  a.completes_of_take_respond _ (parse_laneRelease l) rfl answers (by simp)
    (by rw [modLane_inner, modLane_inner, accepted_inner]) fun q => by rw [modLane_port, postsTo_nil]

/-- A taken LANE_EMPTY: the order's end goes to L0 and the lane is as at reset (R127). -/
theorem Admitted.completes_laneEmpty
    (a : Admitted s (.laneEmpty h (byteOf l.val)) h .laneEmpty [byteOf l.val])
    (released : (s.lane l).state = .released) :
    Completes (.laneEmpty h (byteOf l.val)) s h .laneEmpty .done []
      [(stockPort, .orderState l (s.lane l).ref (orderEndOf (s.lane l).releasedFrom))]
      (s.modLane l fun _ => Lane.cleared) := by
  refine a.completes_of_take_respond _ (parse_laneEmpty l) rfl
    (takeLaneEmpty_of_released (s := s.accepted h.port) _ released) (by simp) ?_ fun q => ?_
  · rw [modLane_inner, modLane_inner, post_inner, accepted_inner]
  · rw [modLane_port, post_port, postsTo_cons, postsTo_nil, accepted_lane]

end LaneEnd

/-- Settles O10, request by request: LANE_RELEASE splits on the two finished lanes and the rest, LANE_EMPTY on RELEASED
lanes and the rest, with `orderEndOf` naming the order's end (R126, R127); a bad lane number is read by neither. -/
theorem laneReleaseAndLaneEmptyEndAnOrder : Obligations.LaneReleaseAndLaneEmptyEndAnOrder := by
  refine ⟨fun h l s ready lane => ?release, fun h l s ready lane => ⟨fun ending released origin => ?empty,
    fun notReleased => ?notEmptied⟩, fun h v s ready lane outside => ⟨?releaseBadForm, ?emptyBadForm⟩⟩
  case release =>
    have admitted := admitted_laneRelease ready lane (byteOf l.val)
    intro x i
    by_cases complete : x.strays = 0 ∧ x.state = .complete
    · rw [if_pos complete]
      exact admitted.completes_laneRelease
        (takeLaneRelease_of_complete (s := s.accepted h.port) _ complete.1 complete.2)
    rw [if_neg complete]
    by_cases cancelled : x.strays = 0 ∧ x.state = .cancelled
    · rw [if_pos cancelled]
      exact admitted.completes_laneRelease
        (takeLaneRelease_of_cancelled (s := s.accepted h.port) _ cancelled.1 cancelled.2)
    · rw [if_neg cancelled]
      exact admitted.completes_of_take_refuse (parse_laneRelease l) rfl
        (takeLaneRelease_of_unfinished (s := s.accepted h.port) _ complete cancelled)
  case empty =>
    have ends : orderEndOf (s.lane l).releasedFrom = ending := by
      obtain ⟨fromComplete, rfl⟩ | ⟨fromCancelled, rfl⟩ := origin
      · rw [fromComplete, orderEndOf]
      · rw [fromCancelled, orderEndOf]
    rw [← ends]
    exact (admitted_laneEmpty ready lane (byteOf l.val)).completes_laneEmpty released
  case notEmptied =>
    exact (admitted_laneEmpty ready lane (byteOf l.val)).completes_of_take_refuse (parse_laneEmpty l) rfl
      (takeLaneEmpty_of_not_released (s := s.accepted h.port) _ notReleased)
  case releaseBadForm =>
    exact (admitted_laneRelease ready lane v).completes_badForm (parse_laneRelease_outside outside)
  case emptyBadForm =>
    exact (admitted_laneEmpty ready lane v).completes_badForm (parse_laneEmpty_outside outside)

end Sys2Proof.Machine

/-! What a step can write, said once. A step is a chain of elementary writes (`Upd`), each with what its operation has
checked before it; a law of the part is kept by every step when every elementary write keeps it. -/

namespace Sys2Proof.Machine

/-! ## Elementary writes -/

/-- The work a chain of writes belongs to: taking tasks and promises away (4.5, R115), what follows an operation (log
entry 9), or any operation. -/
inductive Duty
  | release | follow | any
  deriving DecidableEq

/-- What a write of carriers leaves: work that takes tasks away keeps counts and disputes, and what follows an operation
keeps everything of the book but reserved and AUDIT_HOLD. -/
def BookKept (k : Duty) (old new : Vector Carrier 40) : Prop :=
  ∀ i, (k = .follow → (look new i).payload = (look old i).payload) ∧ ∀ b,
    (k ≠ .any → (look (look new i).bays b).count = (look (look old i).bays b).count
      ∧ (look (look new i).bays b).disputed = (look (look old i).bays b).disputed)
    ∧ (k = .follow → (look (look new i).bays b).lot = (look (look old i).bays b).lot
      ∧ (look (look new i).bays b).incoming = (look (look old i).bays b).incoming)

/-- The held offset as it was, or, where an ARRIVED is taken, a new one. -/
def HeldOn (k : Duty) (m : Motion) (held : Option Nat) : Prop := held = m.held ∨ k = .any ∧ held ≠ none

/-- The states from which a presentation may be tried (R84, R103, R108). -/
def MotionState.mayPresent (x : MotionState) : Prop := x ∈ [.idle, .moving, .stopping, .suspended]

/-- A write of the motion record away from the face (Figure 6-1). -/
inductive Motion.Goes (k : Duty) (m : Motion) : Motion → Prop
  | flags (any : k = .any) (hold : Bool) (latch : GuardLevel) : Goes k m { m with hold := hold, guardLatch := latch }
  | drops (waiting : m.state = .waitPermit) : Goes k m { m with state := .idle, chosen := none }
  | waits (duty : k ≠ .release) (idle : m.state = .idle) (x : Choice) :
    Goes k m { m with state := .waitPermit, chosen := some x }
  | stops (any : k = .any) (moving : m.state = .moving) (time : Nat) :
    Goes k m { m with state := .stopping, moveTimer := none, stopTimer := some time }
  | suspends (any : k = .any) (stopping : m.state = .stopping) (offset : Nat) :
    Goes k m { m with state := .suspended, held := some offset, stopTimer := none }
  | blames (any : k = .any) (faulted : m.state = .faulted) (cause : FaultCause) : Goes k m { m with fault := some cause }
  | unsyncs (any : k = .any) (out : m.state ∈ [.offline, .withdrawn, .faulted]) : Goes k m m.unsync
  | syncs (any : k = .any) (unsynced : m.state = .unsynced) (offset : Nat) :
    Goes k m { m.rest .idle with held := some offset }
  | rests (duty : k ≠ .release) (turned : m.state.mayPresent) (held : Option Nat) (holds : HeldOn k m held) :
    Goes k m { m.rest .idle with held := held }
  | ticks (any : k = .any) :
    Goes k m { m with moveTimer := countDown m.moveTimer, stopTimer := countDown m.stopTimer }

/-- A write of one carousel that looks at this carousel alone. -/
inductive Turn (k : Duty) (x : Carousel) : Carousel → Prop
  | carriers (new : Vector Carrier 40) (kept : BookKept k x.carriers new) : Turn k x { x with carriers := new }
  | guardLine (any : k = .any) (level : GuardLevel) : Turn k x { x with guardLine := level }
  | balance (duty : k ≠ .follow) (b : Balance) (right : b.overweight = decide (x.cfg.hardLimit < b.peak)) :
    Turn k x { x with balance := b }
  | settings (any : k = .any) (g : CarouselConfig) (b : Balance) (legal : x.cfg.legal → g.legal)
      (right : b = x.balance ∧ g.hardLimit = x.cfg.hardLimit ∨ b.overweight = decide (g.hardLimit < b.peak)) :
    Turn k x { x with cfg := g, balance := b }
  | filters (keep : Call → Bool) : Turn k x { x with calls := x.calls.filter keep }
  | marks (f : Call → Call) (carrier : ∀ q, (f q).carrier = q.carrier)
      (passes : ∀ q, q.passes ≤ Config.ageLimit → (f q).passes ≤ Config.ageLimit) :
    Turn k x { x with calls := x.calls.map f }
  | raises (q : Call) (fresh : q.passes = 0) (absent : x.callFor q.carrier = none)
      (away : x.presents q.carrier = false) : Turn k x { x with calls := x.calls ++ [q] }
  | sweep (w : Option SweepContext) : Turn k x { x with sweep := w }
  | face (f : Presentation → Presentation) (carrier : ∀ p, (f p).carrier = p.carrier)
      (flag : ∀ p, (f p).faultFlag = p.faultFlag) : Turn k x { x with face := x.face.map f }
  | phase (new : Option Phase) (only : new ≠ none → x.phase ≠ none ∨ x.face ≠ none) : Turn k x { x with phase := new }
  | motion (m : Motion) (goes : x.motion.Goes k m) : Turn k x { x with motion := m }
  | presents (duty : k ≠ .release) (turned : x.motion.state.mayPresent) (held : Option Nat)
      (holds : HeldOn k x.motion held) (c : CarrierId) (scope : Option Scope) :
    Turn k x
      { x with motion := { x.motion.rest .presenting with held := held }, face := some ⟨c, scope, none, false⟩,
               calls := (x.calls.filter fun q => q.carrier ≠ c).map fun q => { q with setAside := false } }
  | faults (any : k = .any) (away : x.motion.state ≠ .presenting ∨ x.face = none) (cause : FaultCause) :
    Turn k x { x with motion := { x.motion.rest .faulted with fault := some cause } }
  | blames (any : k = .any) (presenting : x.motion.state = .presenting) (cause : FaultCause) :
    Turn k x
      { x with motion := { x.motion with fault := some cause }, face := x.face.map fun p => { p with faultFlag := true } }
  | withdraws (any : k = .any) (noFace : x.face = none) :
    Turn k x { x with motion := { x.motion.rest .withdrawn with held := none, fault := none } }

/-- A motion record as a MOVE leaves it (R102, R108). -/
def Motion.moved (m : Motion) (w : LastMove) (time : Nat) : Motion :=
  { m with state := .moving, lastMove := some w, moveTimer := some time }

/-- Every task of a carousel is QUEUED. -/
def State.noneAtFace (s : State) (c : CarouselId) : Prop :=
  ∀ t x, s.task t = some x → x.bay.carousel = c → x.state = .queued

/-- The motion record after a presentation: IDLE, FAULTED where the fault flag stood, or FAULTED with a new cause (R89,
R93, R110). -/
inductive Motion.Leaves (m : Motion) (flag : Bool) : Motion → Prop
  | idle (clear : flag = false) : Leaves m flag (m.rest .idle)
  | faulted (set : flag = true) : Leaves m flag (m.rest .faulted)
  | blamed (cause : FaultCause) : Leaves m flag { m.rest .faulted with fault := some cause }

/-- The calls after a presentation: as they were, or with one for the carrier that was presented. -/
def LeftCalls (k : CarrierId) (old new : List Call) : Prop :=
  new = old ∨ ∃ q : Call, q.carrier = k ∧ q.passes = 0 ∧ new = old ++ [q]

/-- A carousel whose presentation ended (R89, R93, R110). -/
structure Carousel.Closes (x : Carousel) (p : Presentation) (y : Carousel) : Prop where
  presented : x.face = some p
  noPhase : x.phase = none
  leaves : ∃ m calls, x.motion.Leaves p.faultFlag m ∧ LeftCalls p.carrier x.calls calls
    ∧ y = { x with motion := m, calls := calls, face := none }

/-- What may take the place of a ticket. -/
inductive TaskFits (k : Duty) (s : State) (t : Ticket) : Option Task → Prop
  | freed : TaskFits k s t none
  | cut (x : Task) (stands : s.task t = some x) (queued : x.state = .queued) (n : Nat) :
    TaskFits k s t (some { x with count := n })
  | entombed (x : Task) (stands : s.task t = some x) (presented : x.state = .presented) :
    TaskFits k s t (some { x with state := .cancelled, work := none })
  | queued (duty : k ≠ .release) (x : Task) (state : x.state = .queued) : TaskFits k s t (some x)
  | presented (duty : k ≠ .release) (x : Task)
      (atFace : ∃ p, (s.carousel x.bay.carousel).face = some p ∧ p.carrier = x.bay.carrier) : TaskFits k s t (some x)

/-- An elementary write: from `s` to `t`, in work of kind `k`. -/
inductive Upd (k : Duty) (s t : State) : Prop
  | elsewhere (carousels : t.carousels = s.carousels) (tasks : t.tasks = s.tasks) (globals : t.globals = s.globals)
  | turns (turn : ∀ c, t.carousel c = s.carousel c ∨ Turn k (s.carousel c) (t.carousel c)) (tasks : t.tasks = s.tasks)
      (globals : t.globals = s.globals)
  | task (i : Ticket) (x : Option Task) (fits : TaskFits k s i x) (carousels : t.carousels = s.carousels)
      (tasks : t.tasks = put s.tasks i x) (globals : t.globals = s.globals)
  | moves (duty : k ≠ .release) (c : CarouselId) (w : LastMove) (time : Nat) (chosen : (s.motion c).chosen ≠ none)
      (permitted : k = .any ∧ (s.motion c).state = .suspended
        ∨ (s.motion c).state = .waitPermit ∧ s.permitsHeld < s.globals.permits)
      (carousels : t.carousels
        = put s.carousels c { s.carousel c with motion := (s.carousel c).motion.moved w time })
      (tasks : t.tasks = s.tasks) (globals : t.globals = s.globals)
  | closes (duty : k ≠ .release) (c : CarouselId) (p : Presentation) (y : Carousel)
      (closes : (s.carousel c).Closes p y) (cleared : s.noneAtFace c) (carousels : t.carousels = put s.carousels c y) (tasks : t.tasks = s.tasks)
      (globals : t.globals = s.globals)
  | globals (any : k = .any) (legal : s.globals.legal → t.globals.legal)
      (permits : t.globals.permits = s.globals.permits ∨ s.permitsHeld = 0) (carousels : t.carousels = s.carousels)
      (tasks : t.tasks = s.tasks)
  | restarts (any : k = .any) (carousels : ∀ c, t.carousel c = (s.carousel c).restarted) (tasks : ∀ i, t.task i = none)
      (globals : t.globals = s.globals)
  | powersOn (any : k = .any) (carousels : ∀ c, ∃ line, t.carousel c = Carousel.atPowerOn c line)
      (tasks : ∀ i, t.task i = none) (globals : t.globals = Globals.default)

/-! ## Chains of writes -/

/-- `t` comes of `s` by work of kind `k`. Beside the elementary writes it says what no law of a carousel or task needs:
the notice queues, the waiting commands, the part state, and that taking tasks away makes no arbiter run due. -/
structure Reaches (k : Duty) (s t : State) : Prop where
  writes : Relation.ReflTransGen (Upd k) s t
  queues : s.queuesBounded → t.queuesBounded
  pending : t.pending = s.pending
  part : k ≠ .any → t.part = s.part
  arbiter : k = .release → t.due.arbiter = s.due.arbiter

namespace Reaches

variable {k : Duty} {s t u : State} {c d : CarouselId} {p : PortId}

theorem refl (k : Duty) (s : State) : Reaches k s s :=
  ⟨.refl, id, rfl, fun _ => rfl, fun _ => rfl⟩

theorem trans (h : Reaches k s t) (h' : Reaches k t u) : Reaches k s u :=
  ⟨h.writes.trans h'.writes, h'.queues ∘ h.queues, h'.pending.trans h.pending,
    fun e => (h'.part e).trans (h.part e), fun e => (h'.arbiter e).trans (h.arbiter e)⟩

/-- One write that leaves the ports alone. -/
theorem write (h : Reaches k s t) (w : Upd k t u) (ports : u.ports = t.ports := by rfl)
    (pending : u.pending = t.pending := by rfl) (part : u.part = t.part := by rfl)
    (arbiter : u.due.arbiter = t.due.arbiter := by rfl) : Reaches k s u :=
  h.trans ⟨.single w, fun b p => by rw [State.port, ports]; exact b p, pending, fun _ => part, fun _ => arbiter⟩

/-- A write of ports, lanes, entries, stamps or work due. -/
theorem elsewhere (h : Reaches k s t) (ports : u.ports = t.ports := by rfl)
    (carousels : u.carousels = t.carousels := by rfl) (tasks : u.tasks = t.tasks := by rfl)
    (globals : u.globals = t.globals := by rfl) (pending : u.pending = t.pending := by rfl)
    (part : u.part = t.part := by rfl) (arbiter : u.due.arbiter = t.due.arbiter := by rfl) : Reaches k s u :=
  h.write (.elsewhere carousels tasks globals) ports pending part arbiter

/-! ### Ports -/

theorem modPort (h : Reaches k s t) (p : PortId) {f : Port → Port}
    (bound : ∀ x : Port, x.queue.length ≤ Config.noticeQueuePlaces → (f x).queue.length ≤ Config.noticeQueuePlaces) :
    Reaches k s (t.modPort p f) := by
  refine h.trans ⟨.single (.elsewhere rfl rfl rfl), fun b q => ?_, rfl, fun _ => rfl, fun _ => rfl⟩
  rw [modPort_port]
  split
  · exact bound _ (b p)
  · exact b q

theorem post (h : Reaches k s t) (p : PortId) (n : Notice) : Reaches k s (t.post p n) :=
  h.modPort p (post_queue_le n)

theorem respond (h : Reaches k s t) (rt : ReplyTo) (o : ReplyCode) (b : List Byte) : Reaches k s (t.respond rt o b) :=
  h.modPort rt.port (place_queue_le _ _ o b)

theorem refuse (h : Reaches k s t) (rt : ReplyTo) (o : ReplyCode) : Reaches k s (t.refuse rt o) := h.respond rt o []

theorem postStation (h : Reaches k s t) (c : CarouselId) (n : Notice) : Reaches k s (t.postStation c n) := by
  unfold State.postStation
  split
  · exact h
  · exact h.post _ n

theorem postCarousel (h : Reaches k s t) (c : CarouselId) : Reaches k s (t.postCarousel c) := h.post _ _

theorem postLaneState (h : Reaches k s t) (p : PortId) (l : LaneId) : Reaches k s (t.postLaneState p l) := h.post _ _

theorem postLaneStateBoth (h : Reaches k s t) (l : LaneId) : Reaches k s (t.postLaneStateBoth l) :=
  (h.postLaneState _ l).postLaneState _ l

/-! ### Work due, stamps, lanes and entries -/

theorem dueUnhold (h : Reaches k s t) : Reaches k s t.dueUnhold := h.elsewhere
theorem dueFace (h : Reaches k s t) : Reaches k s t.dueFace := h.elsewhere
theorem duePass (h : Reaches k s t) : Reaches k s t.duePass := h.elsewhere
theorem dueFreed (h : Reaches k s t) : Reaches k s t.dueFreed := h.elsewhere
theorem dueSelect (h : Reaches k s t) : Reaches k s t.dueSelect := h.elsewhere
theorem bumpStamp (h : Reaches k s t) : Reaches k s t.bumpStamp := h.elsewhere
theorem modLane (h : Reaches k s t) (l : LaneId) (f : Lane → Lane) : Reaches k s (t.modLane l f) := h.elsewhere
theorem modLine (h : Reaches k s t) (l : LaneId) (i : Nat) (f : Line → Line) : Reaches k s (t.modLine l i f) :=
  h.modLane l _
theorem modWork (h : Reaches k s t) (w : PickWork) (f : Counters → Counters) : Reaches k s (t.modWork w f) :=
  h.modLine _ _ _
theorem setDisc (h : Reaches k s t) (i : EntryId) (e : DiscEntry) : Reaches k s (t.setDisc i e) := h.elsewhere
theorem freeEntry (h : Reaches k s t) (i : EntryId) : Reaches k s (t.freeEntry i) := (h.setDisc i _).dueSelect

theorem redue (h : Reaches k s t) (duty : k ≠ .release) (due : Due) : Reaches k s { t with due := due } :=
  h.trans ⟨.single (.elsewhere rfl rfl rfl), id, rfl, fun _ => rfl, fun e => absurd e duty⟩

theorem dueArbiter (h : Reaches k s t) (duty : k ≠ .release) : Reaches k s t.dueArbiter := h.redue duty _

theorem returnPermit (h : Reaches k s t) (duty : k ≠ .release) (m : MotionState) : Reaches k s (t.returnPermit m) := by
  unfold State.returnPermit
  split
  · exact h.dueArbiter duty
  · exact h

theorem begin (h : Reaches k s t) (duty : k ≠ .release) : Reaches k s t.begin := h.redue duty _

/-! ### Carousels and tasks -/

theorem modCarousel (h : Reaches k s t) {f : Carousel → Carousel} (turn : Turn k (t.carousel c) (f (t.carousel c))) :
    Reaches k s (t.modCarousel c f) := by
  refine h.write (.turns (fun d => ?_) rfl rfl)
  by_cases e : c = d
  · subst e; exact .inr (by simpa using turn)
  · exact .inl (by simp [e])

theorem modMotion (h : Reaches k s t) {f : Motion → Motion} (goes : (t.motion c).Goes k (f (t.motion c))) :
    Reaches k s (t.modMotion c f) :=
  h.modCarousel (.motion _ goes)

theorem modBay (h : Reaches k s t) (r : BayRef) {f : Bay → Bay}
    (keeps : k ≠ .any → (f (t.bay r)).count = (t.bay r).count ∧ (f (t.bay r)).disputed = (t.bay r).disputed)
    (follow : k = .follow → (f (t.bay r)).lot = (t.bay r).lot ∧ (f (t.bay r)).incoming = (t.bay r).incoming) :
    Reaches k s (t.modBay r f) := by
  refine h.modCarousel (f := fun x => { x with carriers := _ }) (.carriers _ fun i => ?_)
  by_cases e : r.carrier = i
  · subst e
    refine ⟨fun _ => by simp, fun b => ?_⟩
    by_cases e' : r.bay = b
    · subst e'; simpa using ⟨keeps, follow⟩
    · simp [e']
  · simp [e]

theorem setTask (h : Reaches k s t) (i : Ticket) {x : Option Task} (fits : TaskFits k t i x) :
    Reaches k s (t.setTask i x) :=
  h.write (.task i x fits rfl rfl rfl)

/-- A fold of writes, with what the fold keeps for its later steps. -/
theorem foldl {α : Type} {f : State → α → State} (keeps : State → Prop) (l : List α) (h : Reaches k s t) (start : keeps t)
    (one : ∀ u a, a ∈ l → keeps u → Reaches k u (f u a) ∧ keeps (f u a)) :
    Reaches k s (l.foldl f t) ∧ keeps (l.foldl f t) := by
  induction l generalizing t with
  | nil => exact ⟨h, start⟩
  | cons a rest ih =>
    obtain ⟨r, kept⟩ := one t a (by simp) start
    exact ih (h.trans r) kept fun u b m => one u b (by simp [m])

theorem foldl' {α : Type} {f : State → α → State} (l : List α) (h : Reaches k s t)
    (one : ∀ u a, a ∈ l → Reaches k u (f u a)) : Reaches k s (l.foldl f t) :=
  (foldl (fun _ => True) l h trivial fun u a m _ => ⟨one u a m, trivial⟩).1

end Reaches

/-! ## Every kind of work is an operation's -/

theorem BookKept.any {k : Duty} {old new : Vector Carrier 40} (_ : BookKept k old new) : BookKept .any old new :=
  fun _ => ⟨fun e => (nomatch e), fun _ => ⟨fun e => absurd rfl e, fun e => (nomatch e)⟩⟩

theorem HeldOn.any {k : Duty} {m : Motion} {held : Option Nat} (h : HeldOn k m held) : HeldOn .any m held :=
  h.imp id fun e => ⟨rfl, e.2⟩

theorem Motion.Goes.any {k : Duty} {m m' : Motion} (h : m.Goes k m') : m.Goes .any m' := by
  cases h with
  | flags _ a b => exact .flags rfl a b
  | drops a => exact .drops a
  | waits _ a b => exact .waits (by decide) a b
  | stops _ a b => exact .stops rfl a b
  | suspends _ a b => exact .suspends rfl a b
  | blames _ a b => exact .blames rfl a b
  | unsyncs _ a => exact .unsyncs rfl a
  | syncs _ a b => exact .syncs rfl a b
  | rests _ a b e => exact .rests (by decide) a b e.any
  | ticks _ => exact .ticks rfl

theorem Turn.any {k : Duty} {x y : Carousel} (h : Turn k x y) : Turn .any x y := by
  cases h with
  | carriers a b => exact .carriers a b.any
  | guardLine _ a => exact .guardLine rfl a
  | balance _ a b => exact .balance (by decide) a b
  | settings _ a b e f => exact .settings rfl a b e f
  | filters a => exact .filters a
  | marks a b e => exact .marks a b e
  | raises a b e f => exact .raises a b e f
  | sweep a => exact .sweep a
  | face a b e => exact .face a b e
  | phase a b => exact .phase a b
  | motion a b => exact .motion a b.any
  | presents _ a b e f g => exact .presents (by decide) a b e.any f g
  | faults _ a b => exact .faults rfl a b
  | blames _ a b => exact .blames rfl a b
  | withdraws _ a => exact .withdraws rfl a

theorem TaskFits.any {k : Duty} {s : State} {t : Ticket} {x : Option Task} (h : TaskFits k s t x) :
    TaskFits .any s t x := by
  cases h with
  | freed => exact .freed
  | cut a b e f => exact .cut a b e f
  | entombed a b e => exact .entombed a b e
  | queued _ a b => exact .queued (by decide) a b
  | presented _ a b => exact .presented (by decide) a b

theorem Upd.any {k : Duty} {s t : State} (h : Upd k s t) : Upd .any s t := by
  cases h with
  | elsewhere a b e => exact .elsewhere a b e
  | turns a b e => exact .turns (fun c => (a c).imp id Turn.any) b e
  | task a b e f g i => exact .task a b e.any f g i
  | moves _ a b e f g i j l => exact .moves (by decide) a b e f (g.imp (fun w => ⟨rfl, w.2⟩) id) i j l
  | closes _ a b e f g i j l => exact .closes (by decide) a b e f g i j l
  | globals _ a b e f => exact .globals rfl a b e f
  | restarts _ a b e => exact .restarts rfl a b e
  | powersOn _ a b e => exact .powersOn rfl a b e

theorem Reaches.any {k : Duty} {s t : State} (h : Reaches k s t) : Reaches .any s t :=
  ⟨h.writes.lift id fun _ _ => Upd.any, h.queues, h.pending, fun e => absurd rfl e, fun e => (nomatch e)⟩

end Sys2Proof.Machine

/-! The shared operations over tasks, calls and bays: what each leaves of the tasks and faces, and the chain of writes it
is. -/

namespace Sys2Proof.Machine

/-! ## Lists of tasks -/

section Lists

variable {s : State} {c : CarouselId} {k : CarrierId} {q : Ticket × Task}

theorem mem_insertBy {α : Type} {before : α → α → Bool} {x y : α} {l : List α} :
    y ∈ insertBy before x l ↔ y = x ∨ y ∈ l := by
  induction l with
  | nil => simp [insertBy]
  | cons z rest ih =>
    unfold insertBy
    split
    · simp only [List.mem_cons, ih]; tauto
    · simp only [List.mem_cons]

/-- A sort lists what it was given. -/
theorem mem_sortBy {α : Type} {before : α → α → Bool} {l : List α} {y : α} : y ∈ sortBy before l ↔ y ∈ l := by
  have key : ∀ (m acc : List α), y ∈ m.foldl (fun acc x => insertBy before x acc) acc ↔ y ∈ acc ∨ y ∈ m := by
    intro m
    induction m with
    | nil => simp
    | cons z rest ih => intro acc; simp only [List.foldl_cons, ih, mem_insertBy, List.mem_cons]; tauto
  rw [sortBy, key]; simp

theorem mem_allTasks : q ∈ s.allTasks ↔ s.task q.1 = some q.2 := by
  simp only [State.allTasks, List.mem_filterMap, List.mem_finRange, true_and, Option.map_eq_some_iff]
  constructor
  · rintro ⟨t, x, h, rfl⟩; exact h
  · intro h; exact ⟨q.1, q.2, h, rfl⟩

theorem mem_queuedOn :
    q ∈ s.queuedOn c k
      ↔ s.task q.1 = some q.2 ∧ q.2.state = .queued ∧ q.2.bay.carousel = c ∧ q.2.bay.carrier = k := by
  simp [State.queuedOn, mem_allTasks, Task.onCarrier]

theorem mem_presentedOn :
    q ∈ s.presentedOn c ↔ s.task q.1 = some q.2 ∧ q.2.state = .presented ∧ q.2.bay.carousel = c := by
  simp [State.presentedOn, mem_allTasks]

theorem mem_tombstonesOn :
    q ∈ s.tombstonesOn c ↔ s.task q.1 = some q.2 ∧ q.2.state = .cancelled ∧ q.2.bay.carousel = c := by
  simp [State.tombstonesOn, mem_allTasks]

theorem mem_pickTasks {l : LaneId} {keep : PickWork → Bool} :
    q ∈ s.pickTasks l keep ↔ s.task q.1 = some q.2 ∧ ∃ w, q.2.work = some w ∧ w.lane = l ∧ keep w = true := by
  rw [State.pickTasks, List.mem_filter, mem_allTasks]
  cases q.2.work <;> simp

theorem mem_queuedOnBay {r : BayRef} {kind : TaskKind} :
    q ∈ s.queuedOnBay r kind
      ↔ s.task q.1 = some q.2 ∧ q.2.state = .queued ∧ q.2.kind = kind ∧ q.2.bay = r := by
  simp [State.queuedOnBay, mem_allTasks, and_assoc]

/-- Each ticket stands once in the list of tasks. -/
theorem allTasks_nodup (s : State) : (s.allTasks.map Prod.fst).Nodup := by
  have : s.allTasks.map Prod.fst = (List.finRange 256).filter fun t => (s.task t).isSome := by
    rw [State.allTasks]
    induction List.finRange 256 with
    | nil => rfl
    | cons t rest ih => cases h : s.task t <;> simp [h, ih]
  rw [this]
  exact (List.nodup_finRange 256).filter _

theorem best?_mem {α : Type} {better : α → α → Bool} {l : List α} {x : α} (h : best? better l = some x) : x ∈ l := by
  induction l generalizing x with
  | nil => simp [best?] at h
  | cons y rest ih =>
    unfold best? at h
    split at h
    · cases h; simp
    · next z hz =>
      split at h <;> cases h
      · exact List.mem_cons_of_mem _ (ih hz)
      · simp

end Lists

/-! ## What the shared operations leave of tasks and faces -/

section Frames

variable (s : State) (c d : CarouselId) (k : CarrierId) (t u : Ticket)

@[simp] theorem postStation_carousels (n : Notice) : (s.postStation c n).carousels = s.carousels := by
  unfold State.postStation; split <;> rfl
@[simp] theorem postStation_carousel (n : Notice) : (s.postStation c n).carousel d = s.carousel d := by
  simp [State.carousel]
@[simp] theorem postStation_motion (n : Notice) : (s.postStation c n).motion d = s.motion d := by
  simp [State.motion]
@[simp] theorem postStation_tasks (n : Notice) : (s.postStation c n).tasks = s.tasks := by
  unfold State.postStation; split <;> rfl
@[simp] theorem postStation_task (n : Notice) : (s.postStation c n).task t = s.task t := by simp [State.task]
@[simp] theorem postStation_lanes (n : Notice) : (s.postStation c n).lanes = s.lanes := by
  unfold State.postStation; split <;> rfl
@[simp] theorem postStation_discs (n : Notice) : (s.postStation c n).discs = s.discs := by
  unfold State.postStation; split <;> rfl
@[simp] theorem postStation_globals (n : Notice) : (s.postStation c n).globals = s.globals := by
  unfold State.postStation; split <;> rfl
@[simp] theorem postStation_due (n : Notice) : (s.postStation c n).due = s.due := by
  unfold State.postStation; split <;> rfl
@[simp] theorem postStation_stamp (n : Notice) : (s.postStation c n).stamp = s.stamp := by
  unfold State.postStation; split <;> rfl

/-- A notice to a station and a write of a motion record do not touch each other. -/
theorem postStation_modMotion (n : Notice) (f : Motion → Motion) :
    (s.postStation c n).modMotion d f = (s.modMotion d f).postStation c n := by
  have station : ((s.modMotion d f).carousel c).cfg.station = (s.carousel c).cfg.station := by
    by_cases h : d = c
    · subst h; simp
    · simp [h]
  unfold State.postStation
  rw [station]
  split <;> rfl

theorem removeCall_carousel :
    (s.removeCall c k).carousel d =
      if c = d then
        { s.carousel d with
          calls := (s.carousel d).calls.filter fun q => q.carrier ≠ k
          motion :=
            if (s.motion d).state = .waitPermit ∧ (s.motion d).chosen.map Choice.carrier = some k then
              { s.motion d with state := .idle, chosen := none }
            else s.motion d }
      else s.carousel d := by
  unfold State.removeCall
  by_cases e : c = d
  · subst e
    by_cases h : (s.motion c).state = .waitPermit ∧ (s.motion c).chosen.map Choice.carrier = some k
    · rw [if_pos h, if_pos rfl, if_pos h]; simp [State.dropChoice, State.motion]
    · rw [if_neg h, if_pos rfl, if_neg h, modCarousel_carousel_self]; rfl
  · simp only [e, if_false]
    split <;> simp [State.dropChoice, e]

@[simp] theorem removeCall_tasks : (s.removeCall c k).tasks = s.tasks := by
  unfold State.removeCall; dsimp only; split <;> rfl
@[simp] theorem removeCall_face : ((s.removeCall c k).carousel d).face = (s.carousel d).face := by
  rw [removeCall_carousel]; split <;> rfl
@[simp] theorem removeCall_phase : ((s.removeCall c k).carousel d).phase = (s.carousel d).phase := by
  rw [removeCall_carousel]; split <;> rfl

@[simp] theorem pruneCall_tasks : (s.pruneCall c k).tasks = s.tasks := by
  unfold State.pruneCall; split
  · rfl
  · split <;> simp [State.dueSelect]
@[simp] theorem pruneCall_face : ((s.pruneCall c k).carousel d).face = (s.carousel d).face := by
  unfold State.pruneCall; split
  · rfl
  · split <;> simp
@[simp] theorem pruneCall_phase : ((s.pruneCall c k).carousel d).phase = (s.carousel d).phase := by
  unfold State.pruneCall; split
  · rfl
  · split <;> simp

theorem freeTask_task : (s.freeTask t).task u = if t = u then none else s.task u := by
  unfold State.freeTask
  by_cases e : t = u
  · subst e
    split
    · next h => simp [h]
    · rw [State.task, pruneCall_tasks]; simp [State.setTask, State.dueFreed]
  · split
    · simp [e]
    · rw [State.task, pruneCall_tasks]; simp [State.setTask, State.dueFreed, State.task, e]

@[simp] theorem freeTask_face : ((s.freeTask t).carousel d).face = (s.carousel d).face := by
  unfold State.freeTask; split <;> simp
@[simp] theorem freeTask_phase : ((s.freeTask t).carousel d).phase = (s.carousel d).phase := by
  unfold State.freeTask; split <;> simp

/-- A fold that frees tickets frees those of its list. -/
theorem foldl_freeTask_task (l : List (Ticket × Task)) :
    (l.foldl (fun acc q => acc.freeTask q.1) s).task u = if u ∈ l.map Prod.fst then none else s.task u := by
  induction l generalizing s with
  | nil => simp
  | cons a rest ih =>
    rw [List.foldl_cons, ih, freeTask_task]
    by_cases h : u ∈ rest.map Prod.fst
    · simp only [h, if_true, List.map_cons, List.mem_cons, or_true]
    · by_cases e : a.1 = u
      · simp [e]
      · have : ¬ u = a.1 := fun h => e h.symm
        simp only [h, if_false, e, List.map_cons, List.mem_cons, this, or_false]

/-- A tombstone of a carousel (R88). -/
def Task.tombOn (c : CarouselId) (x : Task) : Bool := x.state = .cancelled && x.bay.carousel = c

theorem freeTombstones_task : (s.freeTombstones c).task u = (s.task u).filter fun x => !x.tombOn c := by
  rw [State.freeTombstones, foldl_freeTask_task]
  have mem : u ∈ (s.tombstonesOn c).map Prod.fst ↔ ∃ x, s.task u = some x ∧ x.tombOn c = true := by
    simp only [List.mem_map, Task.tombOn, Bool.and_eq_true, decide_eq_true_eq]
    constructor
    · rintro ⟨q, h, rfl⟩; rw [mem_tombstonesOn] at h; exact ⟨q.2, h⟩
    · rintro ⟨x, h, h'⟩; exact ⟨(u, x), mem_tombstonesOn.mpr ⟨h, h'⟩, rfl⟩
  cases h : s.task u with
  | none => simp
  | some x =>
    cases h' : x.tombOn c with
    | true => rw [if_pos (mem.mpr ⟨x, h, h'⟩), Option.filter_some, h']; rfl
    | false =>
      have : ¬ u ∈ (s.tombstonesOn c).map Prod.fst := fun m => by
        obtain ⟨y, hy, hy'⟩ := mem.mp m; rw [h] at hy; cases hy; rw [h'] at hy'; cases hy'
      rw [if_neg this, Option.filter_some, h']; rfl

/-- A face stays through a fold of frees. -/
theorem foldl_freeTask_face (l : List (Ticket × Task)) :
    ((l.foldl (fun acc q => acc.freeTask q.1) s).carousel d).face = (s.carousel d).face
      ∧ ((l.foldl (fun acc q => acc.freeTask q.1) s).carousel d).phase = (s.carousel d).phase := by
  induction l generalizing s with
  | nil => exact ⟨rfl, rfl⟩
  | cons a rest ih => rw [List.foldl_cons, (ih _).1, (ih _).2]; simp

@[simp] theorem freeTombstones_face : ((s.freeTombstones c).carousel d).face = (s.carousel d).face :=
  (foldl_freeTask_face s d _).1
@[simp] theorem freeTombstones_phase : ((s.freeTombstones c).carousel d).phase = (s.carousel d).phase :=
  (foldl_freeTask_face s d _).2

/-- A fold that writes tasks anew writes those of its list; each ticket stands in it with one task only. -/
theorem foldl_setTask_task (g : Task → Task) (l : List (Ticket × Task)) :
    (∀ x, (∀ y, (u, y) ∈ l → y = x) → (u, x) ∈ l →
        (l.foldl (fun acc q => acc.setTask q.1 (some (g q.2))) s).task u = some (g x))
      ∧ (u ∉ l.map Prod.fst → (l.foldl (fun acc q => acc.setTask q.1 (some (g q.2))) s).task u = s.task u) := by
  induction l generalizing s with
  | nil => simp
  | cons a rest ih =>
    obtain ⟨written, kept⟩ := ih (s.setTask a.1 (some (g a.2)))
    refine ⟨fun x only mem => ?_, fun out => ?_⟩
    · by_cases h : (u, x) ∈ rest
      · exact written x (fun y m => only y (List.mem_cons_of_mem _ m)) h
      · obtain rfl : (u, x) = a := by simpa [h] using mem
        have out : u ∉ rest.map Prod.fst := fun m => by
          obtain ⟨q, hq, e⟩ := List.mem_map.mp m
          have : q.2 = x := only q.2 (List.mem_cons_of_mem _ (by rw [← e]; exact hq))
          exact h (by rw [← this, ← e]; exact hq)
        rw [List.foldl_cons, kept out]; simp
    · simp only [List.map_cons, List.mem_cons, not_or] at out
      rw [List.foldl_cons, kept out.2, setTask_task_ne _ _ (Ne.symm out.1)]

theorem foldl_setTask_carousels (g : Task → Task) (l : List (Ticket × Task)) :
    (l.foldl (fun acc q => acc.setTask q.1 (some (g q.2))) s).carousels = s.carousels := by
  induction l generalizing s with
  | nil => rfl
  | cons a rest ih => rw [List.foldl_cons, ih]; rfl

/-- A task as its carousel's release leaves it: PRESENTED becomes QUEUED (R93, R110). -/
def Task.requeuedOn (c : CarouselId) (x : Task) : Task :=
  if x.state = .presented ∧ x.bay.carousel = c then { x with state := .queued } else x

theorem requeue_task : (s.requeue c).task u = (s.task u).map (Task.requeuedOn c) := by
  obtain ⟨written, kept⟩ := foldl_setTask_task s u (fun x => { x with state := .queued }) (s.presentedOn c)
  cases h : s.task u with
  | none =>
    refine (kept fun m => ?_).trans h
    obtain ⟨q, hq, rfl⟩ := List.mem_map.mp m
    rw [mem_presentedOn, h] at hq; cases hq.1
  | some x =>
    by_cases e : x.state = .presented ∧ x.bay.carousel = c
    · rw [Option.map_some, Task.requeuedOn, if_pos e]
      refine written x (fun y m => ?_) (mem_presentedOn.mpr ⟨h, e⟩)
      rw [mem_presentedOn, h] at m; exact (Option.some.inj m.1).symm
    · rw [Option.map_some, Task.requeuedOn, if_neg e]
      refine (kept fun m => ?_).trans h
      obtain ⟨q, hq, rfl⟩ := List.mem_map.mp m
      rw [mem_presentedOn, h] at hq; cases hq.1; exact e hq.2

@[simp] theorem requeue_carousels : (s.requeue c).carousels = s.carousels :=
  foldl_setTask_carousels s (fun x => { x with state := .queued }) _
@[simp] theorem requeue_carousel : (s.requeue c).carousel d = s.carousel d := by simp [State.carousel]

end Frames

/-! ## Chains of writes -/

theorem postsTo_queue_le (posts : List (PortId × Notice)) (q : PortId) (x : Port)
    (h : x.queue.length ≤ Config.noticeQueuePlaces) : (postsTo posts q x).queue.length ≤ Config.noticeQueuePlaces := by
  induction posts generalizing x with
  | nil => exact h
  | cons n rest ih =>
    rw [postsTo_cons]
    refine ih _ ?_
    split
    · exact post_queue_le _ _ h
    · exact h

theorem booked_cfg (k : CarrierId) (b : BayId) (f : Bay → Bay) (x : Carousel) : (x.booked k b f).cfg = x.cfg := rfl

@[simp] theorem settleEmpty_count (b : Bay) : b.settleEmpty.count = b.count := by unfold Bay.settleEmpty; split <;> rfl
@[simp] theorem settleEmpty_reserved (b : Bay) : b.settleEmpty.reserved = b.reserved := by
  unfold Bay.settleEmpty; split <;> rfl
@[simp] theorem settleEmpty_incoming (b : Bay) : b.settleEmpty.incoming = b.incoming := by
  unfold Bay.settleEmpty; split <;> rfl
@[simp] theorem settleEmpty_disputed (b : Bay) : b.settleEmpty.disputed = b.disputed := by
  unfold Bay.settleEmpty; split <;> rfl
@[simp] theorem settleEmpty_auditHold (b : Bay) : b.settleEmpty.auditHold = b.auditHold := by
  unfold Bay.settleEmpty; split <;> rfl

theorem giveBack_keeps (x : Task) (b : Bay) : (giveBack x b).count = b.count ∧ (giveBack x b).disputed = b.disputed := by
  unfold giveBack; split <;> exact ⟨rfl, rfl⟩

namespace Reaches

variable {k : Duty} {s t : State} {c : CarouselId} {i : Ticket} {x : Task}

/-- One change of one bay (R8): the carriers are written, then the balance with OVERWEIGHT tested. -/
theorem changeBay (h : Reaches k s t) (r : BayRef) {f : Bay → Bay} (duty : k ≠ .follow)
    (keeps : k = .release → ∀ b, (f b).count = b.count ∧ (f b).disputed = b.disputed) :
    Reaches k s (t.changeBay r f) := by
  have kept : BookKept k (t.carousel r.carousel).carriers
      ((t.carousel r.carousel).booked r.carrier r.bay f).carriers := fun j => by
    refine ⟨fun e => absurd e duty, fun b => ⟨fun e => ?_, fun e => absurd e duty⟩⟩
    have release : k = .release := by cases k <;> simp_all
    by_cases ej : r.carrier = j
    · subst ej
      by_cases eb : r.bay = b
      · subst eb; simp [Carousel.booked, keeps release]
      · simp [Carousel.booked, eb]
    · simp [Carousel.booked, ej]
  refine h.trans ⟨?_, fun b p => ?_, changeBay_pending _ _ _, fun _ => changeBay_part _ _ _, fun _ => ?_⟩
  · by_cases still : ((t.carousel r.carousel).booked r.carrier r.bay f).balance = (t.carousel r.carousel).balance
    · refine .single (.turns (fun d => ?_) (by simp) (by simp))
      rw [changeBay_carousel]
      split
      · next e =>
        subst e
        have : (t.carousel r.carousel).booked r.carrier r.bay f = { t.carousel r.carousel with
            carriers := ((t.carousel r.carousel).booked r.carrier r.bay f).carriers } :=
          congrArg (fun b => { (t.carousel r.carousel).booked r.carrier r.bay f with balance := b }) still
        rw [this]; exact .inr (.carriers _ kept)
      · exact .inl rfl
    · refine .tail (b := t.modCarousel r.carousel fun x =>
        { x with carriers := (x.booked r.carrier r.bay f).carriers }) (.single (.turns (fun d => ?_) rfl rfl))
        (.turns (fun d => ?_) (by simp) (by simp))
      · rw [modCarousel_carousel]
        split
        · next e => subst e; exact .inr (.carriers _ kept)
        · exact .inl rfl
      · rw [changeBay_carousel, modCarousel_carousel]
        split
        · next e =>
          subst e
          refine .inr (.balance duty ((t.carousel r.carousel).booked r.carrier r.bay f).balance ?_)
          unfold Carousel.booked at still ⊢
          dsimp only at still ⊢
          split
          · next e => rw [if_pos e] at still; exact absurd rfl still
          · rfl
        · exact .inl rfl
  · rw [changeBay_port]; exact postsTo_queue_le _ _ _ (b p)
  · rw [changeBay_due]

/-- More tyres of a bay are reserved: nothing else of the book moves. -/
theorem reserve (h : Reaches k s t) (r : BayRef) {a : Nat} (some : 0 < a) :
    Reaches k s (t.changeBay r fun b => { b with reserved := b.reserved + a }) := by
  have still : ∀ b : Bay, (({ b with reserved := b.reserved + a } : Bay).mass : Int) - (b.mass : Int) = 0 := fun b => by
    cases e : b.lot <;> simp [Bay.mass, e]
  have settled : ∀ b : Bay, ({ b with reserved := b.reserved + a } : Bay).settleEmpty
      = { b with reserved := b.reserved + a } := fun b => by
    refine if_neg fun e => ?_
    have := e.2.1; dsimp only at this; omega
  have turn : (t.carousel r.carousel).booked r.carrier r.bay (fun b => { b with reserved := b.reserved + a })
      = { t.carousel r.carousel with
          carriers := ((t.carousel r.carousel).booked r.carrier r.bay fun b =>
            { b with reserved := b.reserved + a }).carriers } := by
    simp only [Carousel.booked, still, if_true]
  have noFlip : (t.carousel r.carousel).flips r.carrier r.bay (fun b => { b with reserved := b.reserved + a })
      = false := by
    rw [Carousel.flips, turn]; simp
  refine h.trans ⟨.single (.turns (fun d => ?_) (by simp) (by simp)), fun b p => ?_, changeBay_pending _ _ _,
    fun _ => changeBay_part _ _ _, fun _ => ?_⟩
  · rw [changeBay_carousel]
    split
    · next e =>
      subst e
      rw [turn]
      refine .inr (.carriers _ fun j => ?_)
      by_cases ej : r.carrier = j
      · subst ej
        refine ⟨fun _ => by simp [Carousel.booked, still], fun b => ?_⟩
        by_cases eb : r.bay = b
        · subst eb; simp [Carousel.booked, settled]
        · simp [Carousel.booked, eb]
      · simp [Carousel.booked, ej]
    · exact .inl rfl
  · rw [changeBay_port]; exact postsTo_queue_le _ _ _ (b p)
  · rw [changeBay_due]

/-- The half-profile or the settings of a carousel are written and OVERWEIGHT is tested (R30). -/
theorem settings (h : Reaches .any s t) {f : Carousel → Carousel} (g : CarouselConfig) (b : Balance)
    (shape : f (t.carousel c) = { t.carousel c with cfg := g, balance := b }) (legal : (t.carousel c).cfg.legal → g.legal) :
    Reaches .any s ((t.modCarousel c f).testOverweight c) := by
  unfold State.testOverweight
  dsimp only
  by_cases e : ((t.modCarousel c f).carousel c).overweightNow = ((t.modCarousel c f).carousel c).balance.overweight
  · rw [if_pos e]
    refine h.modCarousel ?_
    rw [shape]
    refine .settings rfl g b legal (.inr ?_)
    rw [modCarousel_carousel_self, shape] at e
    exact e.symm
  · rw [if_neg e, modCarousel_modCarousel]
    refine (Reaches.postCarousel (h.modCarousel ?_) c).dueSelect.dueUnhold
    rw [Function.comp, modCarousel_carousel_self, shape]
    exact .settings rfl g _ legal (.inr rfl)

/-! ### Calls -/

theorem storeTask (h : Reaches k s t) (duty : k ≠ .release) (i : Ticket) (x : Task) (queued : x.state = .queued) :
    Reaches k s (t.storeTask i x) :=
  (h.setTask i (.queued duty x queued)).elsewhere

theorem raiseCall (h : Reaches k s t) (q : CarrierId) (scope : Option Scope) (aside : Bool)
    (absent : (t.carousel c).callFor q = none) (away : (t.carousel c).presents q = false) :
    Reaches k s (t.raiseCall c q scope aside) :=
  ((h.modCarousel (.raises ⟨q, t.stamp, 0, scope, aside⟩ rfl absent away)).bumpStamp).dueSelect

theorem modCalls (h : Reaches k s t) {f : Call → Call} (carrier : ∀ q, (f q).carrier = q.carrier)
    (passes : ∀ q, q.passes ≤ Config.ageLimit → (f q).passes ≤ Config.ageLimit) : Reaches k s (t.modCalls c f) :=
  h.modCarousel (.marks f carrier passes)

theorem dropChoice (h : Reaches k s t) (waiting : (t.motion c).state = .waitPermit) : Reaches k s (t.dropChoice c) :=
  (h.modMotion (.drops waiting)).dueSelect

theorem removeCall (h : Reaches k s t) (c : CarouselId) (q : CarrierId) : Reaches k s (t.removeCall c q) := by
  have filtered : Reaches k s (t.modCarousel c fun x => { x with calls := x.calls.filter fun y => y.carrier ≠ q }) :=
    h.modCarousel (.filters _)
  unfold State.removeCall
  dsimp only
  split
  · next waits => exact filtered.dropChoice (by simpa [State.motion] using waits.1)
  · exact filtered

theorem pruneCall (h : Reaches k s t) (c : CarouselId) (q : CarrierId) : Reaches k s (t.pruneCall c q) := by
  unfold State.pruneCall
  split
  · exact h
  · split
    · exact h.removeCall c q
    · exact h.dueSelect

theorem ensureCall (h : Reaches k s t) (c : CarouselId) (q : CarrierId) : Reaches k s (t.ensureCall c q) := by
  unfold State.ensureCall
  split
  · exact h.dueSelect
  · next absent =>
    simp only [Bool.or_eq_true, not_or, Bool.not_eq_true, Option.isSome_eq_false_iff, Option.isNone_iff_eq_none] at absent
    exact h.raiseCall q none false absent.2 absent.1

theorem raiseScope (h : Reaches k s t) (c : CarouselId) (q : CarrierId) (scope : Scope) :
    Reaches k s (t.raiseScope c q scope) := by
  unfold State.raiseScope
  dsimp only
  split
  · exact (h.modCarousel (.face (fun p => { p with pendingAudit := mergeScope p.pendingAudit scope }) (fun _ => rfl)
      fun _ => rfl)).dueFace
  · next away =>
    split
    · exact (h.modCalls (fun y => by split <;> rfl) fun y b => by split <;> exact b).dueSelect
    · next absent =>
      exact h.raiseCall q (some scope) false (by simpa using absent) (by simpa using away)

theorem freeTask (h : Reaches k s t) (i : Ticket) : Reaches k s (t.freeTask i) := by
  unfold State.freeTask
  split
  · exact h
  · exact ((h.setTask i .freed).dueFreed).pruneCall _ _

theorem freeTombstones (h : Reaches k s t) (c : CarouselId) : Reaches k s (t.freeTombstones c) :=
  foldl' _ h fun u q _ => (refl k u).freeTask q.1

/-! ### Presenting tasks -/

theorem presentTask (h : Reaches k s t) (duty : k ≠ .release) (i : Ticket) (x : Task)
    (atFace : ∃ p, (t.carousel x.bay.carousel).face = some p ∧ p.carrier = x.bay.carrier) :
    Reaches k s (t.presentTask i x) :=
  (h.setTask i (.presented duty { x with state := .presented } atFace)).postStation _ _

theorem presentUnheld (h : Reaches k s t) (duty : k ≠ .release) (c : CarouselId) : Reaches k s (t.presentUnheld c) := by
  unfold State.presentUnheld
  split
  · exact h
  · next p face =>
    refine (foldl (fun u => (u.carousel c).face = some p) _ h face fun u q mem kept => ?_).1
    rw [mem_sortBy, List.mem_filter, mem_queuedOn] at mem
    obtain ⟨⟨_, _, rfl, carrier⟩, _⟩ := mem
    exact ⟨(refl k u).presentTask duty q.1 q.2 ⟨p, kept, carrier.symm⟩, by simpa [State.presentTask] using kept⟩

theorem releaseHolds (h : Reaches k s t) (duty : k ≠ .release) : Reaches k s t.releaseHolds := by
  unfold State.releaseHolds
  split
  · exact (foldl' carouselIds h fun u c _ => (refl k u).presentUnheld duty c).redue duty _
  · exact h

theorem joinPlanner (h : Reaches k s t) (duty : k ≠ .release) (i : Ticket) : Reaches k s (t.joinPlanner i) := by
  unfold State.joinPlanner
  split
  · exact h
  · next x stands =>
    split
    · next presents =>
      split
      · refine h.presentTask duty i x ?_
        simpa [Carousel.presents] using presents
      · exact h
    · exact h.ensureCall _ _

/-! ### Taking tasks away (4.5) -/

theorem entomb (h : Reaches k s t) (duty : k ≠ .follow) (stands : t.task i = some x) (presented : x.state = .presented) :
    Reaches k s (t.entomb i x) :=
  (((h.changeBay x.bay duty fun _ => giveBack_keeps x).setTask i
    (.entombed x (by simpa using stands) presented)).postStation _ _).dueFace

theorem takeAway (h : Reaches k s t) (duty : k ≠ .follow) (stands : t.task i = some x) : Reaches k s (t.takeAway i x) := by
  unfold State.takeAway
  split
  · exact (h.changeBay x.bay duty fun _ => giveBack_keeps x).freeTask i
  · next presented => exact h.entomb duty stands presented
  · exact h

end Reaches

theorem takeAway_task_ne {s : State} {t u : Ticket} (x : Task) (h : t ≠ u) : (s.takeAway t x).task u = s.task u := by
  unfold State.takeAway State.entomb
  split
  · rw [freeTask_task, if_neg h, changeBay_task]
  · simp [h]
  · rfl

namespace Reaches

variable {k : Duty} {s t : State} {c : CarouselId} {i : Ticket} {x : Task}

/-- Tasks are taken away one at a time, each still in its place when its turn comes. -/
theorem takeAwayAll (h : Reaches k s t) (duty : k ≠ .follow) (l : List (Ticket × Task)) (once : (l.map Prod.fst).Nodup)
    (stand : ∀ q ∈ l, t.task q.1 = some q.2) : Reaches k s (l.foldl (fun acc q => acc.takeAway q.1 q.2) t) := by
  induction l generalizing t with
  | nil => exact h
  | cons a rest ih =>
    rw [List.map_cons, List.nodup_cons] at once
    refine ih (h.takeAway duty (stand a (by simp))) once.2 fun q m => ?_
    rw [takeAway_task_ne _ fun e => once.1 (List.mem_map.mpr ⟨q, m, e.symm⟩)]
    exact stand q (by simp [m])

theorem takePickTasks (h : Reaches k s t) (duty : k ≠ .follow) (l : LaneId) (keep : PickWork → Bool) :
    Reaches k s ((t.pickTasks l keep).foldl (fun acc q => acc.takeAway q.1 q.2) t) := by
  refine h.takeAwayAll duty _ (((allTasks_nodup t).sublist ?_)) fun q m => (mem_pickTasks.mp m).1
  exact List.Sublist.map _ List.filter_sublist

theorem releaseSet (h : Reaches k s t) (duty : k ≠ .follow) (l : LaneId) (line set : Nat) :
    Reaches k s (t.releaseSet l line set) :=
  (h.takePickTasks duty l _).modLine l line _

theorem afterReopen (h : Reaches k s t) (duty : k ≠ .follow) (w : PickWork) : Reaches k s (t.afterReopen w) := by
  unfold State.afterReopen
  split
  · exact h.duePass
  · split
    · exact h.duePass
    · split
      · exact (h.releaseSet duty _ _ _).duePass
      · exact h.duePass

theorem cutTask (h : Reaches k s t) (duty : k ≠ .follow) (stands : t.task i = some x) (queued : x.state = .queued)
    (n : Nat) : Reaches k s (t.cutTask i x n) := by
  have bay : Reaches k s (t.changeBay x.bay fun b => { b with reserved := b.reserved - n }) :=
    h.changeBay x.bay duty fun _ _ => ⟨rfl, rfl⟩
  have cut : Reaches k s (if x.count ≤ n then (t.changeBay x.bay fun b => { b with reserved := b.reserved - n }).freeTask i
      else (t.changeBay x.bay fun b => { b with reserved := b.reserved - n }).setTask i
        (some { x with count := x.count - n })) := by
    split
    · exact bay.freeTask i
    · exact bay.setTask i (.cut x (by simpa using stands) queued _)
  unfold State.cutTask
  dsimp only
  split
  · exact cut
  · exact (cut.modWork _ _).afterReopen duty _

theorem liftHold (h : Reaches k s t) (r : BayRef) : Reaches k s (t.liftHold r) :=
  (h.modBay r (fun _ => ⟨rfl, rfl⟩) fun _ => ⟨rfl, rfl⟩).dueUnhold

end Reaches

end Sys2Proof.Machine

/-! The planner, the allocation pass and the arbiter as chains of writes, up to all that follows an operation. -/

namespace Sys2Proof.Machine

/-! ## What they leave of tasks and faces -/

section Frames

variable (s : State) (c d : CarouselId) (k : CarrierId) (t u : Ticket)

theorem raiseCall_carousel (scope : Option Scope) (aside : Bool) :
    (s.raiseCall c k scope aside).carousel d =
      if c = d then { s.carousel d with calls := (s.carousel d).calls ++ [⟨k, s.stamp, 0, scope, aside⟩] }
      else s.carousel d := by
  have eq : (s.raiseCall c k scope aside).carousel d = (s.modCarousel c fun x =>
      { x with calls := x.calls ++ [⟨k, s.stamp, 0, scope, aside⟩] }).carousel d := rfl
  rw [eq, modCarousel_carousel]
  split
  · next e => rw [e]
  · rfl

@[simp] theorem raiseCall_tasks (scope : Option Scope) (aside : Bool) : (s.raiseCall c k scope aside).tasks = s.tasks := rfl
@[simp] theorem raiseCall_face (scope : Option Scope) (aside : Bool) :
    ((s.raiseCall c k scope aside).carousel d).face = (s.carousel d).face := by rw [raiseCall_carousel]; split <;> rfl
@[simp] theorem raiseCall_phase (scope : Option Scope) (aside : Bool) :
    ((s.raiseCall c k scope aside).carousel d).phase = (s.carousel d).phase := by rw [raiseCall_carousel]; split <;> rfl

@[simp] theorem raiseScope_tasks (scope : Scope) : (s.raiseScope c k scope).tasks = s.tasks := by
  unfold State.raiseScope; dsimp only; split
  · rfl
  · split <;> rfl

@[simp] theorem raiseAdvanced_tasks (scope : Scope) : (s.raiseAdvanced c k scope).tasks = s.tasks := by
  unfold State.raiseAdvanced; split
  · rfl
  · simp

@[simp] theorem advanceSweep_tasks : (s.advanceSweep c).tasks = s.tasks := by
  unfold State.advanceSweep
  split
  · rfl
  · dsimp only
    split
    · rw [raiseAdvanced_tasks]; rfl
    · split
      · rfl
      · rw [raiseAdvanced_tasks]; rfl

/-- A fold of entry reservations and holds writes entries and bays only. -/
theorem foldl_hold_tasks (l : List (BayId × EntryId)) :
    (l.foldl (fun acc p => (acc.setDisc p.2 .reserved).modBay ⟨c, k, p.1⟩ fun b => { b with auditHold := true }) s).tasks
      = s.tasks := by
  induction l generalizing s with
  | nil => rfl
  | cons a rest ih => rw [List.foldl_cons, ih]; rfl

/-- A bay written leaves everything of its carousel but the carriers. -/
theorem modBay_rest (r : BayRef) (g : Bay → Bay) :
    (s.modBay r g).carousel d = { s.carousel d with carriers := ((s.modBay r g).carousel d).carriers } := by
  rw [modBay_eq, modCarousel_carousel]; split
  · next e => rw [e]
  · rfl

theorem foldl_hold_rest (l : List (BayId × EntryId)) :
    ∃ new, (l.foldl (fun acc p => (acc.setDisc p.2 .reserved).modBay ⟨c, k, p.1⟩ fun b => { b with auditHold := true })
      s).carousel d = { s.carousel d with carriers := new } := by
  induction l generalizing s with
  | nil => exact ⟨_, rfl⟩
  | cons a rest ih =>
    obtain ⟨new, e⟩ := ih ((s.setDisc a.2 .reserved).modBay ⟨c, k, a.1⟩ fun b => { b with auditHold := true })
    refine ⟨new, ?_⟩
    rw [List.foldl_cons, e, modBay_rest]
    rfl

@[simp] theorem beginPhase_tasks (scope : Scope) (bays : List BayId) : (s.beginPhase c k scope bays).tasks = s.tasks := by
  show (State.postStation _ _ _).tasks = _
  rw [postStation_tasks]
  exact foldl_hold_tasks s c k _

@[simp] theorem handOver_tasks (scope : Scope) : (s.handOver c k scope).tasks = s.tasks := by
  unfold State.handOver
  dsimp only
  split
  · split
    · rw [advanceSweep_tasks]; rfl
    · rfl
  · split
    · rfl
    · rw [beginPhase_tasks]; rfl

@[simp] theorem modBay_face (r : BayRef) (g : Bay → Bay) : ((s.modBay r g).carousel d).face = (s.carousel d).face := by
  rw [modBay_rest]
@[simp] theorem modBay_phase (r : BayRef) (g : Bay → Bay) : ((s.modBay r g).carousel d).phase = (s.carousel d).phase := by
  rw [modBay_rest]

@[simp] theorem freeEntry_carousel (i : EntryId) : (s.freeEntry i).carousel d = s.carousel d := rfl

theorem clearPhase_foldl_tasks (l : List (BayId × PhaseBay)) :
    (l.foldl (fun acc q => (acc.modBay ⟨c, k, q.1⟩ fun b => { b with auditHold := false }).freeEntry q.2.entry)
      s).tasks = s.tasks := by
  induction l generalizing s with
  | nil => rfl
  | cons a rest ih => rw [List.foldl_cons, ih]; rfl

@[simp] theorem clearPhase_tasks : (s.clearPhase c k).tasks = s.tasks := by
  unfold State.clearPhase
  split
  · rfl
  · exact clearPhase_foldl_tasks s c k _

theorem clearPhase_foldl_face (l : List (BayId × PhaseBay)) :
    ((l.foldl (fun acc q => (acc.modBay ⟨c, k, q.1⟩ fun b => { b with auditHold := false }).freeEntry q.2.entry)
      s).carousel d).face = (s.carousel d).face := by
  induction l generalizing s with
  | nil => rfl
  | cons a rest ih => rw [List.foldl_cons, ih, freeEntry_carousel, modBay_face]

@[simp] theorem clearPhase_face : ((s.clearPhase c k).carousel d).face = (s.carousel d).face := by
  unfold State.clearPhase
  split
  · rfl
  · rw [State.setPhase, modCarousel_carousel]
    split
    · next e => subst e; exact clearPhase_foldl_face s c c k _
    · exact clearPhase_foldl_face s c d k _

theorem clearPhase_phase : ((s.clearPhase c k).carousel c).phase = none := by
  unfold State.clearPhase
  split
  · assumption
  · simp [State.setPhase]

theorem selectLoop_zero (done : List CarouselId) : State.selectLoop 0 done s = s.dropLapsed := rfl

/-- One round of the selections. (The recursion is unfolded by hand: the choice among six known carousels must not be
evaluated on the way.) -/
theorem selectLoop_succ (fuel : Nat) (done : List CarouselId) :
    State.selectLoop (fuel + 1) done s =
      match carouselIds.find? fun c => s.dropLapsed.selectable c && !(done.contains c) with
      | none => s.dropLapsed
      | some c => State.selectLoop fuel (c :: done) (s.dropLapsed.select c) := by
  delta State.selectLoop Nat.brecOn Nat.brecOn.go State.selectLoop._f
  dsimp only <;> (generalize carouselIds.find? _ = next; cases next <;> rfl)

theorem noneAtFace_iff_tasks {s t : State} (h : t.tasks = s.tasks) : t.noneAtFace c ↔ s.noneAtFace c := by
  simp only [State.noneAtFace, State.task, h]

/-- With no task PRESENTED, freeing the tombstones leaves none at the face. -/
theorem freeTombstones_noneAtFace (h : s.presentedOn c = []) : (s.freeTombstones c).noneAtFace c := by
  intro t x stands on
  rw [freeTombstones_task, Option.filter_eq_some_iff] at stands
  obtain ⟨stands, notTomb⟩ := stands
  cases state : x.state with
  | queued => rfl
  | presented => exact absurd (mem_presentedOn (q := (t, x)).mpr ⟨stands, state, on⟩) (by simp [h])
  | cancelled => simp [Task.tombOn, state, on] at notTomb

theorem presentedOn_of_tasks {s t : State} (h : t.tasks = s.tasks) : t.presentedOn c = s.presentedOn c := by
  simp only [State.presentedOn, State.allTasks, State.task, h]

theorem requeue_presentedOn : (s.requeue c).presentedOn c = [] := by
  refine List.eq_nil_iff_forall_not_mem.mpr fun q m => ?_
  rw [mem_presentedOn, requeue_task, Option.map_eq_some_iff] at m
  obtain ⟨⟨y, _, e⟩, state, on⟩ := m
  unfold Task.requeuedOn at e
  split at e
  · rw [← e] at state; cases state
  · next h => rw [← e] at state on; exact h ⟨state, on⟩

end Frames

namespace Reaches

variable {k : Duty} {s t : State} {c : CarouselId} {i : Ticket} {x : Task}

/-! ## Sweeps, phases and presentations -/

theorem enterIdle (h : Reaches k s t) (duty : k ≠ .release) (turned : (t.motion c).state.mayPresent) :
    Reaches k s (t.enterIdle c) :=
  ((h.modMotion (.rests duty turned _ (.inl rfl))).returnPermit duty _).dueSelect

theorem modFace (h : Reaches k s t) (c : CarouselId) (f : Presentation → Presentation)
    (carrier : ∀ p, (f p).carrier = p.carrier) (flag : ∀ p, (f p).faultFlag = p.faultFlag) :
    Reaches k s (t.modFace c f) :=
  h.modCarousel (.face f carrier flag)

theorem defer (h : Reaches k s t) (c : CarouselId) (scope : Scope) : Reaches k s (t.defer c scope) :=
  h.modFace c (fun p => { p with deferred := mergeScope p.deferred scope }) (fun _ => rfl) fun _ => rfl

theorem raiseAdvanced (h : Reaches k s t) (c : CarouselId) (q : CarrierId) (scope : Scope) :
    Reaches k s (t.raiseAdvanced c q scope) := by
  unfold State.raiseAdvanced
  split
  · exact h.defer c scope
  · exact h.raiseScope c q scope

theorem setSweep (h : Reaches k s t) (c : CarouselId) (w : Option SweepContext) : Reaches k s (t.setSweep c w) :=
  h.modCarousel (.sweep w)

theorem advanceSweep (h : Reaches k s t) (c : CarouselId) : Reaches k s (t.advanceSweep c) := by
  unfold State.advanceSweep
  split
  · exact h
  · dsimp only
    split
    · exact (h.setSweep c _).raiseAdvanced c _ _
    · split
      · exact (h.setSweep c _).post _ _
      · exact ((h.setSweep c _).post _ _).raiseAdvanced c _ _

theorem endPhase (h : Reaches k s t) (c : CarouselId) : Reaches k s (t.setPhase c none) :=
  h.modCarousel (.phase none fun e => absurd rfl e)

theorem beginPhase (h : Reaches k s t) (q : CarrierId) (scope : Scope) (bays : List BayId)
    (face : (t.carousel c).face ≠ none) : Reaches k s (t.beginPhase c q scope bays) := by
  have held : Reaches k s ((bays.zip t.freeEntries).foldl (fun acc p =>
      (acc.setDisc p.2 .reserved).modBay ⟨c, q, p.1⟩ fun b => { b with auditHold := true }) t) :=
    foldl' _ h fun u p _ => ((refl k u).setDisc _ _).modBay _ (fun _ => ⟨rfl, rfl⟩) fun _ => ⟨rfl, rfl⟩
  obtain ⟨new, rest⟩ := foldl_hold_rest t c c q (bays.zip t.freeEntries)
  exact ((held.modCarousel (.phase _ fun _ => .inr (by rw [rest]; exact face))).postStation _ _).dueSelect

theorem handOver (h : Reaches k s t) (q : CarrierId) (scope : Scope) (face : (t.carousel c).face ≠ none) :
    Reaches k s (t.handOver c q scope) := by
  have taken : Reaches k s (t.modFace c fun p => { p with pendingAudit := none }) :=
    h.modFace c _ (fun _ => rfl) fun _ => rfl
  unfold State.handOver
  dsimp only
  split
  · split
    · exact taken.advanceSweep c
    · exact taken
  · split
    · exact taken.defer c _
    · refine taken.beginPhase q scope _ ?_
      simpa [State.modFace] using face

/-- The end of a presentation: the face is empty, what is left may wait in a call, and the motion record is written. -/
theorem closes {p : Presentation} (h : Reaches k s t) (duty : k ≠ .release) (presented : (t.carousel c).face = some p)
    (noPhase : (t.carousel c).phase = none) (cleared : t.noneAtFace c) {f : Motion → Motion}
    (leaves : (t.motion c).Leaves p.faultFlag (f (t.motion c))) (left : Prop) [Decidable left] (scope : Option Scope)
    (aside : Bool) :
    Reaches k s (State.modMotion (if left then
      (t.modCarousel c fun x => { x with face := none }).raiseCall c p.carrier scope aside
      else t.modCarousel c fun x => { x with face := none }) c f) := by
  split
  · refine h.write (.closes duty c p _ ⟨presented, noPhase, _, _, leaves, .inr ⟨⟨p.carrier, t.stamp, 0, scope, aside⟩, rfl,
      rfl, rfl⟩, rfl⟩ cleared ?_ rfl rfl)
    simp [State.modMotion, State.raiseCall, State.modCarousel, State.bumpStamp, State.dueSelect, State.carousel,
      State.motion]
  · refine h.write (.closes duty c p _ ⟨presented, noPhase, _, _, leaves, .inl rfl, rfl⟩ cleared ?_ rfl rfl)
    simp [State.modMotion, State.modCarousel, State.carousel, State.motion]

theorem endPresentation {p : Presentation} (h : Reaches k s t) (duty : k ≠ .release)
    (presented : (t.carousel c).face = some p) (noPhase : (t.carousel c).phase = none) (none : t.presentedOn c = []) :
    Reaches k s (t.endPresentation c p) := by
  have freed : Reaches k s ((t.freeTombstones c).postStation c (.faceEnd c p.carrier)) :=
    (h.freeTombstones c).postStation _ _
  have cleared : ((t.freeTombstones c).postStation c (.faceEnd c p.carrier)).noneAtFace c :=
    (noneAtFace_iff_tasks c (by simp)).mpr (freeTombstones_noneAtFace t c none)
  unfold State.endPresentation
  dsimp only
  split
  · next flag =>
    exact ((freed.closes duty (by simpa) (by simpa) cleared (.faulted flag) _ _ _).postCarousel c).returnPermit duty _
  · next flag =>
    exact ((freed.closes duty (by simpa) (by simpa) cleared (.idle (by simpa using flag)) _ _ _).returnPermit duty
      _).dueSelect

theorem faceTest (h : Reaches k s t) (duty : k ≠ .release) (c : CarouselId) : Reaches k s (t.faceTest c) := by
  unfold State.faceTest
  split
  · exact h
  · next p face =>
    split
    · exact h
    · next clear =>
      simp only [Bool.or_eq_true, Bool.not_eq_eq_eq_not, Bool.not_true, List.isEmpty_eq_false_iff, not_or,
        Bool.not_eq_true, Option.isSome_eq_false_iff, Option.isNone_iff_eq_none, ne_eq, not_not] at clear
      obtain ⟨noPhase, nonePresented⟩ := clear
      split
      · exact h.endPresentation duty face noPhase nonePresented
      · next scope _ =>
        have handed := h.handOver (c := c) p.carrier scope (by simp [face])
        dsimp only
        split
        · exact handed
        · next q faceNow =>
          split
          · exact handed
          · next noPhaseNow =>
            exact handed.endPresentation duty faceNow (by simpa using noPhaseNow)
              ((presentedOn_of_tasks c (by simp)).trans nonePresented)

theorem postFace (h : Reaches k s t) (c : CarouselId) (q : CarrierId) (shown : List (Ticket × Task))
    (scope : Option Scope) : Reaches k s (t.postFace c q shown scope) :=
  foldl' _ (h.postStation _ _) fun u _ _ => (refl k u).postStation _ _

/-- A presentation is tried once the held offset is written and the timers are stopped (R84, R103). -/
theorem startPresentationAt (h : Reaches k s t) (duty : k ≠ .release) (q : CarrierId)
    (turned : (t.motion c).state.mayPresent) {held : Option Nat} (holds : HeldOn k (t.motion c) held)
    {f : Motion → Motion} (arrives : ∀ x, (f (t.motion c)).rest x = { (t.motion c).rest x with held := held }) :
    Reaches k s ((t.modMotion c f).startPresentation c q) := by
  unfold State.startPresentation
  dsimp only
  split
  · unfold State.enterIdle
    rw [modMotion_modMotion]
    refine ((h.modMotion ?_).returnPermit duty _).dueSelect
    rw [Function.comp, arrives]
    exact .rests duty turned held holds
  · have entered : Reaches k s ((t.modMotion c f).modCarousel c fun x =>
        { x with motion := x.motion.rest .presenting, face := some ⟨q, (((t.modMotion c f).carousel c).callFor q).bind
                   Call.scope, none, false⟩,
                 calls := (x.calls.filter fun y => y.carrier ≠ q).map fun y => { y with setAside := false } }) := by
      rw [State.modMotion, modCarousel_modCarousel]
      refine h.modCarousel ?_
      have motion := arrives .presenting
      rw [State.motion] at motion
      rw [Function.comp, motion]
      exact .presents duty turned held holds q _
    have shown := (foldl (fun u => ∃ p, (u.carousel c).face = some p ∧ p.carrier = q) (f := fun acc y =>
        acc.setTask y.1 (some { y.2 with state := .presented }))
      (sortBy faceBefore (((t.modMotion c f).queuedOn c q).filter fun y => !(t.modMotion c f).isHeld y.2))
      (entered.returnPermit duty ((t.modMotion c f).motion c).state) ⟨_, by simp; rfl, rfl⟩
      fun u y mem kept => by
        rw [mem_sortBy, List.mem_filter, mem_queuedOn] at mem
        obtain ⟨⟨_, _, rfl, carrier⟩, _⟩ := mem
        obtain ⟨p, face, on⟩ := kept
        exact ⟨(refl k u).setTask _ (.presented duty { y.2 with state := .presented } ⟨p, face, on.trans carrier.symm⟩),
          p, face, on⟩).1
    split
    · exact (shown.postFace c q _ _).faceTest duty c
    · exact shown.postFace c q _ _

theorem startPresentation (h : Reaches k s t) (duty : k ≠ .release) (q : CarrierId)
    (turned : (t.motion c).state.mayPresent) : Reaches k s (t.startPresentation c q) := by
  have same : t.modMotion c id = t := modCarousel_id t c rfl
  have := h.startPresentationAt duty q turned (held := (t.motion c).held) (.inl rfl) (f := id) fun _ => rfl
  rwa [same] at this

theorem clearPhase (h : Reaches k s t) (c : CarouselId) (q : CarrierId) : Reaches k s (t.clearPhase c q) := by
  unfold State.clearPhase
  split
  · exact h
  · exact (foldl' _ h fun u y _ =>
      ((refl k u).modBay _ (fun _ => ⟨rfl, rfl⟩) fun _ => ⟨rfl, rfl⟩).freeEntry _).endPhase c

theorem requeue (h : Reaches k s t) (duty : k ≠ .release) (c : CarouselId) : Reaches k s (t.requeue c) :=
  foldl' _ h fun u q _ => (refl k u).setTask q.1 (.queued duty { q.2 with state := .queued } rfl)

/-- A presentation that is cut short, with the motion record written after it. -/
theorem cutPresentation {p : Presentation} (h : Reaches k s t) (duty : k ≠ .release)
    (presented : (t.carousel c).face = some p) (aside : Bool) {f : Motion → Motion}
    (leaves : ∀ m : Motion, m.Leaves p.faultFlag (f m)) : Reaches k s ((t.cutPresentation c p aside).modMotion c f) := by
  have stopped := ((h.requeue duty c).freeTombstones c).clearPhase c p.carrier
  refine stopped.closes duty (by simpa) (clearPhase_phase _ _ _) ?_ (leaves _) _ _ _
  exact (noneAtFace_iff_tasks c (by simp)).mpr (freeTombstones_noneAtFace _ c (requeue_presentedOn t c))

/-! ## Selection -/

theorem passOver (h : Reaches k s t) (c : CarouselId) (chosen : Call) : Reaches k s (t.passOver c chosen) :=
  h.modCalls (fun q => by split <;> rfl) fun q b => by
    split
    · exact Nat.min_le_left _ _
    · exact b

theorem select (h : Reaches k s t) (duty : k ≠ .release) (idle : (t.motion c).state = .idle) :
    Reaches k s (t.select c) := by
  unfold State.select
  split
  · exact h
  · next r _ =>
    have passed := h.passOver c r.call
    have state : ((t.passOver c r.call).motion c).state = .idle := by
      simpa [State.passOver, State.modCalls, State.motion] using idle
    dsimp only
    split
    · exact passed.startPresentation duty _ (by simp [MotionState.mayPresent, state])
    · exact (passed.modMotion (.waits duty state _)).dueArbiter duty

theorem dropLapsed (h : Reaches k s t) : Reaches k s t.dropLapsed :=
  foldl' _ h fun u c _ => by
    split
    · next lapsed =>
      refine (refl k u).dropChoice ?_
      simp only [State.lapsed, Bool.and_eq_true, decide_eq_true_eq] at lapsed
      exact lapsed.1
    · exact refl k u

theorem selectLoop (h : Reaches k s t) (duty : k ≠ .release) (fuel : Nat) (done : List CarouselId) :
    Reaches k s (State.selectLoop fuel done t) := by
  induction fuel generalizing done t with
  | zero => rw [selectLoop_zero]; exact h.dropLapsed
  | succ fuel ih =>
    rw [selectLoop_succ]
    split
    · exact h.dropLapsed
    · next c found =>
      refine ih (h.dropLapsed.select duty ?_) _
      have := List.find?_some found
      simp only [State.selectable, Bool.and_eq_true, decide_eq_true_eq] at this
      exact this.1.1.1

/-! ## The arbiter -/

theorem startMove (h : Reaches k s t) (duty : k ≠ .release) (target : Nat) (chosen : (t.motion c).chosen ≠ none)
    (permitted : k = .any ∧ (t.motion c).state = .suspended
      ∨ (t.motion c).state = .waitPermit ∧ t.permitsHeld < t.globals.permits) : Reaches k s (t.startMove c target) :=
  (h.post (drivePort c) _).write (.moves duty c _ _ chosen permitted rfl rfl rfl)

theorem nextGrant?_waits {s : State} {c : CarouselId} (h : s.nextGrant? = some c) :
    (s.motion c).state = .waitPermit ∧ (s.motion c).guardLatch = .closed := by
  obtain ⟨⟨d, stamp⟩, found, rfl⟩ := Option.map_eq_some_iff.mp h
  have mem := best?_mem found
  rw [List.mem_filterMap] at mem
  obtain ⟨e, _, he⟩ := mem
  obtain ⟨y, hy, e'⟩ := Option.map_eq_some_iff.mp he
  cases e'
  unfold State.permitStamp? at hy
  dsimp only at hy
  split at hy
  · assumption
  · cases hy

theorem arbiterLoop (h : Reaches k s t) (duty : k ≠ .release) (fuel : Nat) : Reaches k s (State.arbiterLoop fuel t) := by
  induction fuel generalizing t with
  | zero => exact h
  | succ fuel ih =>
    unfold State.arbiterLoop
    split
    · exact h
    · next free =>
      split
      · exact h
      · next c found =>
        refine ih ?_
        unfold State.grant
        split
        · exact h
        · next x chosen =>
          refine h.startMove duty _ (by simp [chosen]) (.inr ⟨(nextGrant?_waits found).1, ?_⟩)
          unfold State.freePermits at free
          omega

/-! ## The allocation pass -/

theorem allocateTo {r : BayRef} {a : Nat} {l : LaneId} {line : Nat} {set : Option Nat} {urgent : Bool} {u : State}
    (h : Reaches k s t) (duty : k ≠ .release) (some : 0 < a) (e : t.allocateTo r a l line set urgent = .some u) :
    Reaches k s u := by
  unfold State.allocateTo at e
  dsimp only at e
  split at e
  · next i x oldest =>
    cases e
    have mem := best?_mem oldest
    rw [State.growable, List.mem_filter] at mem
    have queued : x.state = .queued := by
      have := mem.2
      simp only [Bool.and_eq_true, decide_eq_true_eq] at this
      exact this.1
    exact ((((h.reserve r some).setTask i (.queued duty { x with count := x.count + a } queued)).modWork _ _).joinPlanner
      duty i).dueSelect
  · split at e
    · cases e
    · cases e
      exact (((((h.reserve r some).storeTask duty _ _ rfl).bumpStamp).modWork _ _).joinPlanner duty _).dueSelect

theorem eligibleBays_free {s : State} {article : Nat} {minWeek : Option Nat} {w : Nat} {r : BayRef}
    (h : r ∈ ofWeek w (s.eligibleBays article minWeek)) : 0 < (s.bay r).free := by
  simp only [ofWeek, State.eligibleBays, List.mem_map, List.mem_filter] at h
  obtain ⟨q, ⟨⟨r', ⟨_, eligible⟩, rfl⟩, _⟩, rfl⟩ := h
  unfold State.bayEligible at eligible
  dsimp only at eligible
  split at eligible
  · cases eligible
  · simp only [Bool.and_eq_true, decide_eq_true_eq] at eligible; exact eligible.2

theorem allocUnmatched (h : Reaches k s t) (duty : k ≠ .release) (l : LaneId) (i : Nat) (urgent : Bool) (fuel : Nat) :
    Reaches k s (State.allocUnmatched l i urgent fuel t).state := by
  induction fuel generalizing t with
  | zero => exact h
  | succ fuel ih =>
    unfold State.allocUnmatched
    split
    · exact h
    · next line _ =>
      split
      · exact h
      · next opened =>
        dsimp only
        split
        · exact h
        · next r found =>
          split
          · exact h
          · next u e =>
            obtain ⟨w, _, best⟩ := Option.bind_eq_some_iff.mp found
            exact ih (h.allocateTo duty (lt_min (eligibleBays_free (best?_mem best)) (Nat.pos_of_ne_zero opened)) e)

theorem fillSet {l : LaneId} {i j : Nat} {line : Line} {urgent : Bool} {w : Nat} {fuel lacking : Nat} {u : State}
    (h : Reaches k s t) (duty : k ≠ .release) (e : State.fillSet l i j line urgent w fuel lacking t = some u) :
    Reaches k s u := by
  induction fuel generalizing t lacking with
  | zero => cases e; exact h
  | succ fuel ih =>
    unfold State.fillSet at e
    split at e
    · cases e; exact h
    · next lacks =>
      split at e
      · cases e; exact h
      · next r best =>
        dsimp only at e
        split at e
        · cases e
        · next v e' =>
          exact ih (h.allocateTo duty (lt_min (eligibleBays_free (best?_mem best)) (Nat.pos_of_ne_zero lacks)) e') e

theorem coverSet {l : LaneId} {i j : Nat} {line : Line} {urgent : Bool} {w need : Nat} {u : State}
    (h : Reaches k s t) (duty : k ≠ .release) (some : 0 < need) (e : t.coverSet l i j line urgent w need = .some u) :
    Reaches k s u := by
  unfold State.coverSet at e
  dsimp only at e
  split at e
  · exact h.allocateTo duty some e
  · exact h.fillSet duty e

theorem allocSet (h : Reaches k s t) (duty : k ≠ .release) (l : LaneId) (i j : Nat) (line : Line) (urgent : Bool)
    (r : SetRecord) : Reaches k s (t.allocSet l i j line urgent r).state := by
  unfold State.allocSet
  split
  · exact h
  · next opened =>
    split
    · exact h
    · dsimp only
      split
      · exact h
      · next e => exact (h.modLine _ _ _).coverSet duty (Nat.pos_of_ne_zero opened) e

theorem allocSets (h : Reaches k s t) (duty : k ≠ .release) (l : LaneId) (i : Nat) (urgent : Bool) (sets : List Nat) :
    Reaches k s (State.allocSets l i urgent sets t).state := by
  induction sets generalizing t with
  | nil => exact h
  | cons j rest ih =>
    unfold State.allocSets
    split
    · exact ih h
    · dsimp only
      split
      · exact h.allocSet duty _ _ _ _ _ _
      · exact ih (h.allocSet duty _ _ _ _ _ _)

theorem markWaiting (h : Reaches k s t) (l : LaneId) (i : Nat) : Reaches k s (t.markWaiting l i) := by
  unfold State.markWaiting
  split
  · exact h
  · split
    · exact h.modLine _ _ _
    · split
      · exact h
      · exact (h.modLine _ _ _).post _ _

theorem allocLine (h : Reaches k s t) (duty : k ≠ .release) (l : LaneId) (i : Nat) :
    Reaches k s (t.allocLine l i).state := by
  have marked : ∀ v : Visit, Reaches k s v.state →
      Reaches k s (if v.stopped then v else ⟨v.state.markWaiting l i, false⟩).state := fun v visited => by
    split
    · exact visited
    · exact visited.markWaiting l i
  unfold State.allocLine
  split
  · exact h
  · split
    · exact h
    · dsimp only
      split
      · exact marked _ (h.allocUnmatched duty _ _ _ _)
      · exact marked _ (h.allocSets duty _ _ _ _)

theorem allocLines (h : Reaches k s t) (duty : k ≠ .release) (lines : List (LaneId × Nat)) :
    Reaches k s (State.allocLines lines t) := by
  induction lines generalizing t with
  | nil => exact h
  | cons p rest ih =>
    unfold State.allocLines
    dsimp only
    split
    · exact (h.allocLine duty p.1 p.2).elsewhere
    · exact ih (h.allocLine duty p.1 p.2)

theorem allocationPass (h : Reaches k s t) (duty : k ≠ .release) : Reaches k s t.allocationPass :=
  Reaches.allocLines (t := { t with starved := false }) h.elsewhere duty _

/-! ## After an operation -/

theorem settleFaces (h : Reaches k s t) (duty : k ≠ .release) : Reaches k s t.settleFaces := by
  unfold State.settleFaces
  split
  · exact foldl' _ h fun u c _ => (refl k u).faceTest duty c
  · exact h

theorem settlePass (h : Reaches k s t) (duty : k ≠ .release) : Reaches k s t.settlePass := by
  unfold State.settlePass
  split
  · exact (h.redue duty _).allocationPass duty
  · exact h

theorem settleSelect (h : Reaches k s t) (duty : k ≠ .release) : Reaches k s t.settleSelect := by
  unfold State.settleSelect
  split
  · exact h.selectLoop duty 6 []
  · exact h

theorem settleArbiter (h : Reaches k s t) (duty : k ≠ .release) : Reaches k s t.settleArbiter := by
  unfold State.settleArbiter
  split
  · exact h.arbiterLoop duty 6
  · exact h

theorem settle (h : Reaches k s t) (duty : k ≠ .release) : Reaches k s t.settle :=
  (((((h.releaseHolds duty).settleFaces duty).settlePass duty).settleSelect duty).settleArbiter duty).begin duty

end Reaches

end Sys2Proof.Machine

/-! Every request and every event as a chain of writes; a withdrawal is one larger write. -/

namespace Sys2Proof.Machine

namespace Reaches

variable {s t : State} {c : CarouselId} {i : Ticket} {x : Task} (rt : ReplyTo)

/-! ## Put-away and picking -/

section Release

variable {k : Duty}

theorem postRemainder (h : Reaches k s t) (i : Ticket) (lot : Option Lot) (tyres : Nat) :
    Reaches k s (t.postRemainder i lot tyres) := h.post _ _

theorem cancelPut (h : Reaches k s t) (duty : k ≠ .follow) (i : Ticket) (x : Task) : Reaches k s (t.cancelPut i x) :=
  (h.changeBay x.bay duty fun _ => giveBack_keeps x).freeTask i

theorem handBackPut (h : Reaches k s t) (duty : k ≠ .follow) (i : Ticket) (x : Task) : Reaches k s (t.handBackPut i x) :=
  (h.cancelPut duty i x).postRemainder _ _ _

end Release

theorem placePut (h : Reaches .any s t) (i : Ticket) (lot : Lot) (y : Candidate) : Reaches .any s (t.placePut i lot y) :=
  ((((h.changeBay _ (by decide) (by simp)).storeTask (by decide) i _ rfl).bumpStamp).joinPlanner (by decide) i).dueSelect

theorem takePutRequest (h : Reaches .any s t) (lot : Lot) (count : Nat) (pref : Option CarouselId) :
    Reaches .any s (t.takePutRequest rt lot count pref) := by
  unfold State.takePutRequest
  split
  · exact h.refuse rt _
  · split
    · exact h.refuse rt _
    · exact (h.placePut _ _ _).respond rt _ _

theorem takePutConfirm (h : Reaches .any s t) (i : Ticket) (j : Nat) : Reaches .any s (t.takePutConfirm rt i j) := by
  unfold State.takePutConfirm
  split
  · exact h.refuse rt _
  · next x _ =>
    repeat' (split; exact h.refuse rt _)
    dsimp only
    have stored := (h.changeBay x.bay (f := storedBay j x.count) (by decide) (by simp)).freeTask i
    have reported : Reaches .any s (if j < x.count then
        ((t.changeBay x.bay (storedBay j x.count)).freeTask i).postRemainder i (t.bay x.bay).lot (x.count - j)
        else (t.changeBay x.bay (storedBay j x.count)).freeTask i) := by
      split
      · exact stored.postRemainder _ _ _
      · exact stored
    refine (((Reaches.dueFace ?_).releaseHolds (by decide)).respond rt _ _).settlePass (by decide)
    split
    · exact reported.duePass
    · exact reported

theorem takePutCancel (h : Reaches .any s t) (i : Ticket) : Reaches .any s (t.takePutCancel rt i) := by
  unfold State.takePutCancel
  split
  · exact h.refuse rt _
  · split
    · exact ((h.cancelPut (by decide) _ _).releaseHolds (by decide)).respond rt _ _
    · exact h.refuse rt _

theorem joinShortPick (h : Reaches .any s t) (r : BayRef) : Reaches .any s (t.joinShortPick r) :=
  (h.modFace r.carousel (fun p => { p with
    pendingAudit := mergeScope p.pendingAudit (Scope.single r.bay .shortPick t.globals.shortPickMode) }) (fun _ => rfl)
    fun _ => rfl).dueFace

theorem shortPick (h : Reaches .any s t) (x : Task) : Reaches .any s (t.shortPick x) := by
  unfold State.shortPick
  dsimp only
  split
  · exact (h.joinShortPick _).duePass
  · exact ((h.afterReopen (by decide) _).joinShortPick _).duePass

theorem confirmPick (h : Reaches .any s t) (i : Ticket) (x : Task) (j : Nat) : Reaches .any s (t.confirmPick i x j) := by
  have picked := h.changeBay x.bay (f := pickedBay j x.count) (by decide) (by simp)
  have finished : ∀ u, Reaches .any s u → Reaches .any s
      (if j < x.count then ((u.freeTask i).dueFace).shortPick x else (u.freeTask i).dueFace) := fun u h' => by
    split
    · exact ((h'.freeTask i).dueFace).shortPick x
    · exact (h'.freeTask i).dueFace
  unfold State.confirmPick
  dsimp only
  cases x.work with
  | none => exact finished _ picked
  | some w => exact finished _ (picked.modWork _ _)

theorem takePickConfirm (h : Reaches .any s t) (i : Ticket) (j : Nat) : Reaches .any s (t.takePickConfirm rt i j) := by
  unfold State.takePickConfirm
  split
  · exact h.refuse rt _
  · repeat' (split; exact h.refuse rt _)
    exact ((h.confirmPick i _ j).releaseHolds (by decide)).respond rt _ _

/-! ## The motion record -/

theorem enterFaulted (h : Reaches .any s t) (away : (t.motion c).state ≠ .presenting ∨ (t.carousel c).face = none)
    (cause : FaultCause) : Reaches .any s (t.enterFaulted c cause) := by
  unfold State.enterFaulted State.goFaulted
  rw [modMotion_modMotion]
  exact ((h.modCarousel (.faults rfl away cause)).postCarousel c).returnPermit (by decide) _

theorem mispositionFace {p : Presentation} (h : Reaches .any s t) (presented : (t.carousel c).face = some p) :
    Reaches .any s (t.mispositionFace c p) := by
  unfold State.mispositionFace State.enterFaulted State.goFaulted
  rw [modMotion_modMotion, postStation_modMotion]
  exact (((h.cutPresentation (by decide) presented false fun _ => .blamed .misposition).postStation _ _).postCarousel
    c).returnPermit (by decide) _

theorem takeFaceRelease (h : Reaches .any s t) (q : CarrierId) : Reaches .any s (t.takeFaceRelease rt c q) := by
  unfold State.takeFaceRelease
  dsimp only
  split
  · exact h.refuse rt _
  · split
    · exact h.refuse rt _
    · next p presented =>
      split
      · exact h.refuse rt _
      · refine Reaches.respond ?_ rt _ _
        cases flag : p.faultFlag with
        | true =>
          exact ((h.cutPresentation (f := fun m => m.rest .faulted) (by decide) presented true fun _ =>
            .faulted flag).postCarousel c).returnPermit (by decide) _
        | false =>
          exact ((h.cutPresentation (f := fun m => m.rest .idle) (by decide) presented true fun _ =>
            .idle flag).returnPermit (by decide) _).dueSelect

theorem takeEnrol (h : Reaches .any s t) : Reaches .any s (t.takeEnrol rt c) := by
  rw [takeEnrol_eq]
  split
  · next out =>
    refine ((h.modMotion (.unsyncs rfl ?_)).postCarousel c).respond rt _ _
    obtain ⟨out | out, _⟩ := out <;> simp [State.motion, out]
  · exact h.refuse rt _

theorem takeReady (h : Reaches .any s t) : Reaches .any s (t.takeReady rt c) := by
  unfold State.takeReady
  split
  · next faulted => exact ((h.modMotion (.unsyncs rfl (by simp [faulted]))).postCarousel c).respond rt _ _
  · exact h.refuse rt _

theorem takeHold (h : Reaches .any s t) (on : Bool) : Reaches .any s (t.takeHold rt c on) := by
  refine Reaches.respond ?_ rt _ _
  split
  · unfold State.holdOn
    by_cases waiting : (t.motion c).state = .waitPermit
    · have dropped := (h.modMotion (c := c) (f := fun m => { m with hold := true })
        (.flags rfl true (t.motion c).guardLatch)).modMotion (c := c)
          (f := fun m => { m with state := .idle, chosen := none }) (.drops (by simpa using waiting))
      rw [modMotion_modMotion] at dropped
      rwa [modMotion_congr t c (g := fun m => { m with hold := true, state := .idle, chosen := none }) (by simp [waiting])]
    · rw [modMotion_congr t c (g := fun m => { m with hold := true }) (by simp [waiting])]
      exact h.modMotion (.flags rfl true (t.motion c).guardLatch)
  · unfold State.holdOff
    split
    · exact (h.modMotion (f := fun m => { m with hold := false }) (.flags rfl false (t.motion c).guardLatch)).dueSelect
    · exact h

theorem misposition (h : Reaches .any s t) : Reaches .any s (t.misposition c) := by
  unfold State.misposition
  split
  · next presented => exact h.mispositionFace presented
  · next none => exact h.enterFaulted (.inr none) _

theorem takePosition (h : Reaches .any s t) (offset : Nat) : Reaches .any s (t.takePosition rt c offset) := by
  have atRest : Reaches .any s ((if (t.motion c).held = some offset then t else t.misposition c).respond rt .done []) := by
    refine Reaches.respond ?_ rt _ _
    split
    · exact h
    · exact h.misposition
  unfold State.takePosition
  split
  · exact h.refuse rt _
  · cases state : (t.motion c).state with
    | offline | faulted | withdrawn => exact h.refuse rt _
    | unsynced => exact ((((h.modMotion (.syncs rfl state offset)).postCarousel c).duePass).dueSelect).respond rt _ _
    | moving | stopping => exact h.respond rt _ _
    | idle | waitPermit | suspended | presenting => exact atRest

theorem arrive (h : Reaches .any s t) (turning : (t.motion c).state = .moving ∨ (t.motion c).state = .stopping)
    (offset : Nat) : Reaches .any s (t.arrive c offset) := by
  have away : (t.motion c).state ≠ .presenting := by rcases turning with e | e <;> simp [e]
  unfold State.arrive
  split
  · exact h.enterFaulted (.inl away) _
  · next x _ =>
    split
    · exact h.startPresentationAt (by decide) x.carrier
        (f := fun m => { m with held := some x.target, moveTimer := none, stopTimer := none })
        (by rcases turning with e | e <;> simp [MotionState.mayPresent, e]) (.inr ⟨rfl, by simp⟩) fun _ => rfl
    · exact h.enterFaulted (.inl away) _

theorem takeArrived (h : Reaches .any s t) (offset : Nat) : Reaches .any s (t.takeArrived rt c offset) := by
  unfold State.takeArrived
  split
  · exact h.refuse rt _
  · cases state : (t.motion c).state with
    | moving => exact (h.arrive (.inl state) offset).respond rt _ _
    | stopping => exact (h.arrive (.inr state) offset).respond rt _ _
    | offline | unsynced | idle | waitPermit | suspended | presenting | faulted | withdrawn => exact h.refuse rt _

theorem takeStopped (h : Reaches .any s t) (offset : Nat) : Reaches .any s (t.takeStopped rt c offset) := by
  unfold State.takeStopped
  split
  · exact h.refuse rt _
  · split
    · next stopping => exact (h.modMotion (.suspends rfl stopping offset)).respond rt _ _
    · exact h.refuse rt _

theorem takeFault (h : Reaches .any s t) (code : Nat) : Reaches .any s (t.takeFault rt c code) := by
  unfold State.takeFault
  cases state : (t.motion c).state with
  | offline | withdrawn => exact h.refuse rt _
  | unsynced | idle | waitPermit | moving | stopping | suspended =>
    exact (h.enterFaulted (.inl (by simp [state])) _).respond rt _ _
  | presenting =>
    refine Reaches.respond ?_ rt _ _
    unfold State.flagFault State.modFace State.modMotion
    rw [modCarousel_modCarousel]
    exact h.modCarousel (.blames rfl state (.drive code))
  | faulted => exact (h.modMotion (.blames rfl state (.drive code))).respond rt _ _

theorem takeResume (h : Reaches .any s t) : Reaches .any s (t.takeResume rt c) := by
  unfold State.takeResume
  split
  · next waiting =>
    split
    · exact h.refuse rt _
    · next x chosen =>
      refine Reaches.respond ?_ rt _ _
      unfold State.resumeMove
      split
      · exact h.startPresentation (by decide) _ (by simp [MotionState.mayPresent, waiting.1])
      · exact h.startMove (by decide) _ (by simp [chosen]) (.inl ⟨rfl, waiting.1⟩)
  · exact h.refuse rt _

/-! ## Audits -/

theorem takeAuditCarrier (h : Reaches .any s t) (q : CarrierId) (mode : AuditMode) :
    Reaches .any s (t.takeAuditCarrier rt c q mode) := by
  unfold State.takeAuditCarrier
  repeat' (split; exact h.refuse rt _)
  exact (h.raiseScope _ _ _).respond rt _ _

theorem takeAuditSweep (h : Reaches .any s t) (first : CarrierId) (n : Nat) (rep : Repetition) (il : Interleave)
    (mode : AuditMode) : Reaches .any s (t.takeAuditSweep rt c first n rep il mode) := by
  unfold State.takeAuditSweep
  dsimp only
  repeat' (split; exact h.refuse rt _)
  exact ((h.setSweep c _).raiseScope _ _ _).respond rt _ _

theorem withoutSweep (h : Reaches .any s t) : Reaches .any s (t.modCarousel c Carousel.withoutSweep) := by
  have parts := (((h.setSweep c none).modCalls (c := c)
    (f := fun q => { q with scope := q.scope.bind Scope.withoutSweep }) (fun _ => rfl) fun _ b => b).modFace c
      (fun p => { p with pendingAudit := p.pendingAudit.bind Scope.withoutSweep,
                         deferred := p.deferred.bind Scope.withoutSweep }) (fun _ => rfl) fun _ => rfl).modCarousel
    (c := c) (f := fun x => { x with phase := x.phase.map fun p => { p with sweep := false } })
    (.phase _ fun e => .inl fun none => e (by rw [none]; rfl))
  simp only [State.setSweep, State.modCalls, State.modFace, modCarousel_modCarousel] at parts
  exact parts

theorem takeAuditStop (h : Reaches .any s t) : Reaches .any s (t.takeAuditStop rt c) := by
  unfold State.takeAuditStop
  split
  · exact h.refuse rt _
  · exact (((foldl' _ h.withoutSweep fun u q _ => (refl .any u).pruneCall c q).faceTest (by decide) c).dueSelect).respond
      rt _ _

theorem cutExcess (h : Reaches .any s t) (r : BayRef) (counted fuel cut : Nat) :
    Reaches .any s (State.cutExcess r counted fuel cut t).1 := by
  induction fuel generalizing cut t with
  | zero => exact h
  | succ fuel ih =>
    unfold State.cutExcess
    dsimp only
    split
    · exact h
    · split
      · exact h
      · next i x newest =>
        obtain ⟨stands, queued, _⟩ := mem_queuedOnBay.mp (best?_mem newest)
        exact ih (h.cutTask (by decide) stands queued _) _

theorem trimPuts (h : Reaches .any s t) (r : BayRef) (counted limit fuel trimmed : Nat) :
    Reaches .any s (State.trimPuts r counted limit fuel trimmed t).1 := by
  induction fuel generalizing trimmed t with
  | zero => exact h
  | succ fuel ih =>
    unfold State.trimPuts
    split
    · exact h
    · split
      · exact h
      · exact ih (h.handBackPut (by decide) _ _) _

theorem adjustBook (h : Reaches .any s t) (r : BayRef) (counted : Nat) : Reaches .any s (t.adjustBook r counted).state := by
  unfold State.adjustBook
  dsimp only
  exact ((h.changeBay r (f := fun b => { b with count := counted }) (by decide) (by simp)).cutExcess r counted _
    0).trimPuts r counted _ _ 0

theorem writeRecord (h : Reaches .any s t) (i : EntryId) (y : DiscRecord) : Reaches .any s (t.writeRecord i y) :=
  h.elsewhere

theorem modPhaseBay (h : Reaches .any s t) (b : BayId) (y : PhaseBay) : Reaches .any s (t.modPhaseBay c b y) :=
  h.modCarousel (.phase _ fun e => .inl fun none => e (by rw [none]; rfl))

theorem takeOutcome (h : Reaches .any s t) (r : BayRef) (mode : AuditMode) (y : PhaseBay) (counted : Nat)
    (unsteady : Bool) : Reaches .any s (t.takeOutcome r mode y counted unsteady) := by
  unfold State.takeOutcome
  dsimp only
  split
  · exact (((h.modBay r (f := fun b => { b with disputed := true, auditHold := false }) (fun e => absurd rfl e)
      (fun e => nomatch e)).writeRecord _ _).post _ _).dueSelect
  · exact ((((h.adjustBook r counted).liftHold r).writeRecord _ _).post _ _).dueSelect

theorem endPhaseIfSettled (h : Reaches .any s t) (c : CarouselId) : Reaches .any s (t.endPhaseIfSettled c) := by
  unfold State.endPhaseIfSettled
  split
  · exact h
  · split
    · split
      · exact ((h.endPhase c).advanceSweep c).dueFace
      · exact (h.endPhase c).dueFace
    · exact h

theorem takeAuditCount (h : Reaches .any s t) (b : BayId) (counted : Nat) :
    Reaches .any s (t.takeAuditCount rt c b counted) := by
  unfold State.takeAuditCount
  split
  · exact h.refuse rt _
  · split
    · exact (h.modPhaseBay _ _).respond rt _ _
    · exact ((((((h.modPhaseBay _ _).freeEntry _).liftHold _).endPhaseIfSettled _)).releaseHolds (by decide)).respond rt _ _
    · exact ((((h.modPhaseBay _ _).takeOutcome _ _ _ _ _).endPhaseIfSettled _).releaseHolds (by decide)).respond rt _ _

theorem removeRecord (h : Reaches .any s t) (i : EntryId) : Reaches .any s (t.removeRecord i) :=
  Reaches.freeEntry (t := { t with discOrder := t.discOrder.filter fun j => j ≠ i }) h.elsewhere i

theorem takeDiscAck (h : Reaches .any s t) (i : EntryId) : Reaches .any s (t.takeDiscAck rt i) := by
  unfold State.takeDiscAck
  split
  · exact h.refuse rt _
  · exact h.refuse rt _
  · split
    · exact h.refuse rt _
    · exact (h.removeRecord i).respond rt _ _

theorem closeDispute (h : Reaches .any s t) (i : EntryId) (r : BayRef) : Reaches .any s (t.closeDispute rt i r) :=
  (((((h.modBay r (f := fun b => { b with disputed := false }) (fun e => absurd rfl e) (fun e => nomatch
    e)).dueUnhold).removeRecord i).duePass).releaseHolds (by decide)).respond rt _ _

theorem takeResolve (h : Reaches .any s t) (i : EntryId) (d : Decision) : Reaches .any s (t.takeResolve rt i d) := by
  unfold State.takeResolve
  split
  · exact h.refuse rt _
  · exact h.refuse rt _
  · split
    · exact h.refuse rt _
    · split
      · exact h.closeDispute rt _ _
      · split
        · exact h.refuse rt _
        · exact (h.adjustBook _ _).closeDispute rt _ _
      · split
        · exact h.refuse rt _
        · exact (h.changeBay _ (by decide) (by simp)).closeDispute rt _ _
      · exact h.closeDispute rt _ _
      all_goals exact h.refuse rt _

theorem takeReadDiscrepancy (h : Reaches .any s t) (id : Option EntryId) :
    Reaches .any s (t.takeReadDiscrepancy rt id) := by
  unfold State.takeReadDiscrepancy
  split
  · split
    · exact h.refuse rt _
    · exact h.refuse rt _
    · exact h.respond rt _ _
  · split
    · exact h.respond rt _ _
    · split <;> exact h.respond rt _ _

/-! ## Lanes and orders -/

theorem testComplete (h : Reaches .any s t) (l : LaneId) : Reaches .any s (t.testComplete l) := by
  unfold State.testComplete
  split
  · exact (h.modLane _ _).postLaneStateBoth l
  · exact h

theorem testDrained (h : Reaches .any s t) (l : LaneId) : Reaches .any s (t.testDrained l) := by
  unfold State.testDrained
  split
  · exact (h.modLane _ _).postLaneStateBoth l
  · exact h

theorem takeArrival (h : Reaches .any s t) (l : LaneId) (article week : Nat) :
    Reaches .any s (t.takeArrival rt l article week) := by
  unfold State.takeArrival
  split
  · exact (((h.modLine _ _ _).testComplete l).testDrained l).respond rt _ _
  · refine Reaches.respond ?_ rt _ _
    unfold State.takeStray
    dsimp only
    split
    · exact (((h.modLane _ _).post _ _).post _ _).postLaneStateBoth l
    · exact ((h.modLane _ _).post _ _).post _ _

theorem takeStrayClear (h : Reaches .any s t) (l : LaneId) (n : Nat) : Reaches .any s (t.takeStrayClear rt l n) := by
  refine Reaches.respond ?_ rt _ _
  split
  · exact h
  · exact (h.modLane _ _).testComplete l

theorem takeLaneRelease (h : Reaches .any s t) (l : LaneId) : Reaches .any s (t.takeLaneRelease rt l) := by
  unfold State.takeLaneRelease
  dsimp only
  split
  · exact h.refuse rt _
  · split
    · exact (h.modLane _ _).respond rt _ _
    · exact (h.modLane _ _).respond rt _ _
    all_goals exact h.refuse rt _

theorem takeLaneEmpty (h : Reaches .any s t) (l : LaneId) : Reaches .any s (t.takeLaneEmpty rt l) := by
  unfold State.takeLaneEmpty
  dsimp only
  split
  · exact ((h.post _ _).modLane _ _).respond rt _ _
  · exact h.refuse rt _

theorem takeOrderOpen (h : Reaches .any s t) (l : LaneId) (ref : BitVec 32) (urgent : Bool) :
    Reaches .any s (t.takeOrderOpen rt l ref urgent) := by
  unfold State.takeOrderOpen
  dsimp only
  split
  · exact (h.modLane _ _).respond rt _ _
  · exact h.refuse rt _

theorem takeOrderLines (h : Reaches .any s t) (l : LaneId) (final : Bool) (lines : List LineSpec) :
    Reaches .any s (t.takeOrderLines rt l final lines) := by
  unfold State.takeOrderLines
  dsimp only
  repeat' (split; exact h.refuse rt _)
  refine Reaches.respond ?_ rt _ _
  split
  · exact (((h.modLane _ _).modLane _ _).bumpStamp).duePass
  · exact h.modLane _ _

theorem takeOrderCancel (h : Reaches .any s t) (l : LaneId) : Reaches .any s (t.takeOrderCancel rt l) := by
  unfold State.takeOrderCancel
  split
  · exact (h.modLane _ _).respond rt _ _
  · refine Reaches.respond ?_ rt _ _
    have taken : Reaches .any s ((t.takeAwayAll l).modLane l (Lane.modLines fun ls => ls.map Line.cancel)) :=
      (h.takePickTasks (by decide) l _).modLane _ _
    unfold State.cancelFilling
    dsimp only
    split
    · exact taken.modLane _ _
    · exact (taken.modLane _ _).postLaneState _ _
  · exact ((h.modLane _ _).postLaneState _ _).respond rt _ _
  all_goals exact h.refuse rt _

theorem expireOrderOpen (h : Reaches .any s t) (l : LaneId) : Reaches .any s (t.expireOrderOpen l) := by
  unfold State.expireOrderOpen
  dsimp only
  split
  · exact (h.modLane _ _).post _ _
  · exact h

/-! ## The stock map -/

theorem takeLoadBay (h : Reaches .any s t) (r : BayRef) (lot : Option Lot) (count : Nat) :
    Reaches .any s (t.takeLoadBay rt r lot count) := by
  unfold State.takeLoadBay
  dsimp only
  repeat' (split; exact h.refuse rt _)
  exact (h.changeBay _ (by decide) (by simp)).respond rt _ _

/-! ## Guards and timers -/

theorem guardEvent (h : Reaches .any s t) (level : GuardLevel) : Reaches .any s (t.guardEvent c level) := by
  have latched : Reaches .any s (t.modMotion c fun m => { m with guardLatch := level }) :=
    h.modMotion (.flags rfl (t.motion c).hold level)
  unfold State.guardEvent
  split
  · exact h
  · unfold State.guardEffect
    split
    · exact latched.dueArbiter (by decide)
    · split
      · next moving => exact (latched.post _ _).modMotion (.stops rfl moving _)
      · exact latched

theorem expireMove (h : Reaches .any s t) : Reaches .any s (t.expireMove c) := by
  unfold State.expireMove
  split
  · next moving => exact (h.post _ _).enterFaulted (.inl (by simp [moving.1])) _
  · exact h

theorem expireStop (h : Reaches .any s t) : Reaches .any s (t.expireStop c) := by
  unfold State.expireStop
  split
  · next stopping => exact h.enterFaulted (.inl (by simp [stopping.1])) _
  · exact h

theorem countTimers (h : Reaches .any s t) : Reaches .any s t.countTimers := by
  refine h.write (.turns (fun c => .inr ?_) rfl rfl)
  have turned : t.countTimers.carousel c = { t.carousel c with
      motion := { (t.carousel c).motion with moveTimer := countDown (t.carousel c).motion.moveTimer,
                                             stopTimer := countDown (t.carousel c).motion.stopTimer } } := look_map _ _ c
  rw [turned]
  exact .motion _ (.ticks rfl)

/-! ## Configuration and start-up -/

theorem modCfg (h : Reaches .any s t) {f : CarouselConfig → CarouselConfig}
    (legal : (t.carousel c).cfg.legal → (f (t.carousel c).cfg).legal)
    (hard : (f (t.carousel c).cfg).hardLimit = (t.carousel c).cfg.hardLimit) : Reaches .any s (t.modCfg c f) :=
  h.modCarousel (.settings rfl _ _ legal (.inl ⟨rfl, hard⟩))

theorem modGlobals (h : Reaches .any s t) {f : Globals → Globals} (legal : t.globals.legal → (f t.globals).legal)
    (permits : (f t.globals).permits = t.globals.permits ∨ t.permitsHeld = 0) : Reaches .any s (t.modGlobals f) :=
  h.write (.globals rfl legal permits rfl rfl)

/-- A timing profile is written. -/
theorem modProfile (h : Reaches .any s t) (p : ProfileId) (x : TimingProfile)
    (legal : (look t.globals.profiles p).baseTime ≤ 600 ∧ 1 ≤ (look t.globals.profiles p).stepTime
        ∧ (look t.globals.profiles p).stepTime ≤ 255 → x.baseTime ≤ 600 ∧ 1 ≤ x.stepTime ∧ x.stepTime ≤ 255) :
    Reaches .any s (t.modGlobals fun g => { g with profiles := put g.profiles p x }) := by
  refine h.modGlobals (fun ⟨profiles, rest⟩ => ⟨fun q => ?_, rest⟩) (.inl rfl)
  dsimp only
  rw [look_put]
  split
  · exact legal (profiles p)
  · exact profiles q

theorem writeItem (h : Reaches .any s t) (v : Nat) (item : ConfigItem) (range : itemInRange v item = true)
    (fits : t.itemFits v item = true) (free : t.itemBusy item = false) : Reaches .any s (t.writeItem v item) := by
  cases item with
  | carrierCount c =>
    simp only [itemInRange, Bool.and_eq_true, decide_eq_true_eq] at range
    show Reaches .any s (((t.modCarousel c _).modCarousel c _).testOverweight c)
    rw [modCarousel_modCarousel]
    exact h.settings _ _ rfl fun ⟨_, _, _, rest⟩ => ⟨range.1.1, range.1.2, range.2, rest⟩
  | bayHeight c =>
    simp only [itemInRange, Bool.and_eq_true, decide_eq_true_eq] at range
    exact h.modCfg (f := fun g => { g with bayHeight := v })
      (fun ⟨a, b, e, _, _, rest⟩ => ⟨a, b, e, range.1, range.2, rest⟩) rfl
  | payloadLimit c =>
    simp only [itemInRange, Bool.and_eq_true, decide_eq_true_eq] at range
    exact h.modCfg (f := fun g => { g with payloadLimit := v })
      (fun ⟨a, b, e, f, g, _, _, rest⟩ => ⟨a, b, e, f, g, range.1, range.2, rest⟩) rfl
  | putLimit c =>
    simp only [State.itemFits, decide_eq_true_eq] at fits
    exact h.modCfg (f := fun g => { g with putLimit := v })
      (fun ⟨a, b, e, f, g, i, j, _, rest⟩ => ⟨a, b, e, f, g, i, j, fits, rest⟩) rfl
  | hardLimit c =>
    simp only [itemInRange, decide_eq_true_eq] at range
    simp only [State.itemFits, decide_eq_true_eq] at fits
    exact h.settings _ _ rfl fun ⟨a, b, e, f, g, i, j, _, _⟩ => ⟨a, b, e, f, g, i, j, fits, range⟩
  | timingProfile c => exact h.modCfg (f := fun g => { g with profile := Fin.ofNat 4 v }) id rfl
  | station c => exact h.modCfg (f := fun g => { g with station := stationOf v }) id rfl
  | baseTime p =>
    simp only [itemInRange, decide_eq_true_eq] at range
    exact h.modProfile p { look t.globals.profiles p with baseTime := v } fun ⟨_, rest⟩ => ⟨range, rest⟩
  | stepTime p =>
    simp only [itemInRange, Bool.and_eq_true, decide_eq_true_eq] at range
    exact h.modProfile p { look t.globals.profiles p with stepTime := v } fun ⟨base, _⟩ => ⟨base, range⟩
  | permits =>
    simp only [itemInRange, Bool.and_eq_true, decide_eq_true_eq] at range
    exact (h.modGlobals (f := fun g => { g with permits := v }) (fun ⟨a, _, _, rest⟩ => ⟨a, range.1, range.2, rest⟩)
      (.inr (by simpa [State.itemBusy] using free))).dueArbiter (by decide)
  | laneCapacity =>
    simp only [itemInRange, Bool.and_eq_true, decide_eq_true_eq] at range
    exact h.modGlobals (f := fun g => { g with laneCapacity := v })
      (fun ⟨a, b, e, _, _, rest⟩ => ⟨a, b, e, range.1, range.2, rest⟩) (.inl rfl)
  | orderOpenTime =>
    simp only [itemInRange, Bool.and_eq_true, decide_eq_true_eq] at range
    exact h.modGlobals (f := fun g => { g with orderOpenTime := v })
      (fun ⟨a, b, e, f, g, _, _⟩ => ⟨a, b, e, f, g, range.1, range.2⟩) (.inl rfl)
  | shortPickMode =>
    exact h.modGlobals (f := fun g => { g with shortPickMode := if v = 1 then .review else .adjust }) id (.inl rfl)

theorem takeConfigure (h : Reaches .any s t) (item : ConfigItem) (v : Nat) : Reaches .any s (t.takeConfigure rt item v) := by
  unfold State.takeConfigure
  split
  · exact h.refuse rt _
  next range =>
  split
  · exact h.refuse rt _
  split
  · exact h.refuse rt _
  split
  · exact h.refuse rt _
  next fits =>
  split
  · exact h.refuse rt _
  next free =>
  exact (h.writeItem v item (by simpa using range) (by simpa using fits) (by simpa using free)).respond rt _ _

theorem leaveStarting (h : Reaches .any s t) : Reaches .any s t.leaveStarting := by
  unfold State.leaveStarting
  split
  · split
    · exact h
    · refine foldl' _ (t := { t with part := .running }) ?_ fun u c _ => (refl .any u).postCarousel c
      exact h.trans ⟨.single (.elsewhere rfl rfl rfl), id, rfl, fun e => absurd rfl e, fun e => (nomatch e)⟩
  · exact h
  · exact h

theorem restart (h : Reaches .any s t) (cause : StartCause) : Reaches .any s (t.restart cause) := by
  refine Reaches.leaveStarting (h.trans ⟨.single (.restarts rfl (fun c => look_map _ _ c) (fun i => look_replicate _ i)
    rfl), fun _ p => ?_, rfl, fun e => absurd rfl e, fun e => (nomatch e)⟩)
  have reset : (t.warmRestart cause).port p = Port.atReset (t.port p).held := look_map _ _ p
  rw [reset]
  exact Nat.zero_le _

theorem assertRestart (h : Reaches .any s t) : Reaches .any s t.assertRestart := by
  unfold State.assertRestart
  split
  · exact h.elsewhere
  · exact Reaches.restart (t := { t with restartAsserted := true }) h.elsewhere _

theorem releaseRestart (h : Reaches .any s t) : Reaches .any s t.releaseRestart :=
  Reaches.leaveStarting (t := { t with restartAsserted := false }) h.elsewhere

theorem powerOn (h : Reaches .any s t) : Reaches .any s t.powerOn := by
  refine h.trans ⟨.single (.powersOn rfl (fun c => ⟨_, look_ofFn _ c⟩) (fun i => look_replicate _ i) rfl), fun _ p => ?_,
    rfl, fun e => absurd rfl e, fun e => (nomatch e)⟩
  have reset : t.powerOn.port p = Port.atReset (look (t.ports.map Port.held) p) := look_ofFn _ p
  rw [reset]
  exact Nat.zero_le _

theorem powerOnReset (h : Reaches .any s t) : Reaches .any s t.powerOnReset :=
  h.trans ⟨.single (.elsewhere rfl rfl rfl), id, rfl, fun e => absurd rfl e, fun e => (nomatch e)⟩

end Reaches

end Sys2Proof.Machine

/-! A withdrawal (R115) as one larger write, and every step as a chain of writes. -/

namespace Sys2Proof.Machine

/-! ## Taking tasks away makes none PRESENTED -/

theorem Upd.release_presented {s t : State} (h : Upd .release s t) {i : Ticket} {x : Task} (stands : t.task i = some x)
    (presented : x.state = .presented) : s.task i = some x := by
  cases h with
  | elsewhere _ tasks _ => rwa [State.task, tasks] at stands
  | turns _ tasks _ => rwa [State.task, tasks] at stands
  | task j y fits _ tasks _ =>
    rw [State.task, tasks, look_put] at stands
    split at stands
    · next e =>
      subst e
      cases fits with
      | freed => cases stands
      | cut z _ queued => cases stands; rw [queued] at presented; cases presented
      | entombed => cases stands; cases presented
      | queued duty => exact absurd rfl duty
      | presented duty => exact absurd rfl duty
    · exact stands
  | moves duty => exact absurd rfl duty
  | closes duty => exact absurd rfl duty
  | globals any => cases any
  | restarts any => cases any
  | powersOn any => cases any

theorem Reaches.release_presented {s t : State} (h : Reaches .release s t) {i : Ticket} {x : Task}
    (stands : t.task i = some x) (presented : x.state = .presented) : s.task i = some x := by
  have key : ∀ {u : State}, Relation.ReflTransGen (Upd .release) s u → u.task i = some x → s.task i = some x := by
    intro u chain
    induction chain with
    | refl => exact id
    | tail _ w ih => exact fun e => ih (w.release_presented e presented)
  exact key h.writes stands

/-! ## A withdrawal -/

namespace Reaches

variable {k : Duty} {s t : State} {c : CarouselId}

theorem withdrawPresented (h : Reaches k s t) (duty : k ≠ .follow) (i : Ticket) :
    Reaches k s (t.withdrawPresented i) := by
  unfold State.withdrawPresented
  split
  · exact h
  · next x stands =>
    split
    · exact h
    · exact h
    · next presented =>
      have tomb := h.entomb duty stands presented
      split
      · exact (tomb.modWork _ _).afterReopen duty _
      · exact tomb
      · exact tomb.postRemainder _ _ _

theorem withdrawQueued (h : Reaches k s t) (duty : k ≠ .follow) (i : Ticket) : Reaches k s (t.withdrawQueued i) := by
  unfold State.withdrawQueued
  split
  · exact h
  · next x stands =>
    split
    · next queued _ => exact h.cutTask duty stands queued _
    · exact h.handBackPut duty _ _
    · exact h
    · exact h

theorem withdrawQueue (h : Reaches k s t) (duty : k ≠ .follow) (c : CarouselId) : Reaches k s (t.withdrawQueue c) :=
  foldl' _ (foldl' _ h fun u i _ => (refl k u).withdrawQueued duty i) fun u i _ => (refl k u).withdrawQueued duty i

theorem withdrawCalls (h : Reaches k s t) (c : CarouselId) : Reaches k s (t.withdrawCalls c) := by
  have dropped : Reaches k s (t.modCarousel c fun x => { x with calls := [], sweep := none }) := by
    have := (h.modCarousel (c := c) (f := fun x => { x with calls := x.calls.filter fun _ => false })
      (.filters _)).setSweep c none
    rw [State.setSweep, modCarousel_modCarousel] at this
    rwa [modCarousel_congr t c (g := (fun x => { x with sweep := none }) ∘ fun x =>
      { x with calls := x.calls.filter fun _ => false }) (by simp)]
  unfold State.withdrawCalls
  dsimp only
  split
  · exact dropped.post _ _
  · exact dropped

end Reaches

theorem entomb_task (s : State) (i : Ticket) (x : Task) :
    (s.entomb i x).task i = some { x with state := .cancelled, work := none } := by
  simp [State.entomb]

/-- A task withdrawn from the face is PRESENTED no more. -/
theorem withdrawPresented_task {s : State} {i : Ticket} {x : Task} (stands : (s.withdrawPresented i).task i = some x) :
    x.state ≠ .presented := by
  have tomb : ∀ (y : Task) (u : State), Reaches .release (s.entomb i y) u → u.task i = some x → x.state ≠ .presented := by
    intro y u h e presented
    have := h.release_presented e presented
    rw [entomb_task] at this
    cases this
    cases presented
  unfold State.withdrawPresented at stands
  split at stands
  · next none => rw [none] at stands; cases stands
  · next y e =>
    split at stands
    · next state => rw [e] at stands; cases stands; simp [state]
    · next state => rw [e] at stands; cases stands; simp [state]
    · split at stands
      · exact tomb y _ (((Reaches.refl _ _).modWork _ _).afterReopen (by decide) _) stands
      · exact tomb y _ (.refl _ _) stands
      · exact tomb y _ ((Reaches.refl _ _).postRemainder _ _ _) stands

/-- Once every ticket of a list was withdrawn from the face, none of them is PRESENTED. -/
theorem foldl_withdrawPresented (l : List (Ticket × Task)) (s : State) :
    Reaches .release s (l.foldl (fun acc q => acc.withdrawPresented q.1) s)
      ∧ ∀ i ∈ l.map Prod.fst, ∀ x, (l.foldl (fun acc q => acc.withdrawPresented q.1) s).task i = some x →
        x.state ≠ .presented := by
  induction l generalizing s with
  | nil => exact ⟨.refl _ _, fun i m => by simp at m⟩
  | cons a rest ih =>
    obtain ⟨chain, done⟩ := ih (s.withdrawPresented a.1)
    refine ⟨((Reaches.refl _ s).withdrawPresented (by decide) a.1).trans chain, fun i m x stands presented => ?_⟩
    rw [List.map_cons, List.mem_cons] at m
    obtain rfl | m := m
    · exact withdrawPresented_task (chain.release_presented stands presented) presented
    · exact done i m x stands presented

/-- After the PRESENTED tasks of a carousel were withdrawn, none is left. -/
theorem withdrawn_presentedOn (s : State) (c : CarouselId) :
    ((s.presentedOn c).foldl (fun acc q => acc.withdrawPresented q.1) s).presentedOn c = [] := by
  obtain ⟨chain, done⟩ := foldl_withdrawPresented (s.presentedOn c) s
  refine List.eq_nil_iff_forall_not_mem.mpr fun q m => ?_
  obtain ⟨stands, presented, on⟩ := mem_presentedOn.mp m
  have before := chain.release_presented stands presented
  exact done q.1 (List.mem_map.mpr ⟨q, mem_presentedOn.mpr ⟨before, presented, on⟩, rfl⟩) q.2 stands presented

/-- The motion record of a withdrawn carousel: everything but HOLD and the latch is cleared (R115). -/
def Motion.withdrawn (m : Motion) : Motion := { m.rest .withdrawn with held := none, fault := none }

/-- A withdrawal from the face: the motion record is cleared, the tasks at the face are taken away and the phase is
stopped, and the face is empty. -/
structure Withdraws (s t : State) : Prop where
  steps : ∃ (c : CarouselId) (u v : State),
    (u.carousels = put s.carousels c { s.carousel c with motion := (s.motion c).withdrawn } ∧ u.tasks = s.tasks
      ∧ u.globals = s.globals)
    ∧ Relation.ReflTransGen (Upd .release) u v
    ∧ (v.noneAtFace c ∧ (v.carousel c).phase = none)
    ∧ (t.carousels = put v.carousels c { v.carousel c with face := none } ∧ t.tasks = v.tasks ∧ t.globals = v.globals)

/-- The work of a withdrawal between the motion record and the empty face (R115 step 2). -/
def State.clearFace (s : State) (c : CarouselId) (p : Presentation) : State :=
  (((((s.presentedOn c).foldl (fun acc q => acc.withdrawPresented q.1) s).freeTombstones c).clearPhase c
    p.carrier).postStation c (.faceEnd c p.carrier))

theorem clearFace_reaches (s : State) (c : CarouselId) (p : Presentation) : Reaches .release s (s.clearFace c p) :=
  (((foldl_withdrawPresented _ s).1.freeTombstones c).clearPhase c p.carrier).postStation _ _

theorem clearFace_cleared (s : State) (c : CarouselId) (p : Presentation) :
    (s.clearFace c p).noneAtFace c ∧ ((s.clearFace c p).carousel c).phase = none := by
  refine ⟨?_, ?_⟩
  · refine (noneAtFace_iff_tasks c (by simp [State.clearFace])).mpr
      (freeTombstones_noneAtFace _ c (withdrawn_presentedOn s c))
  · rw [State.clearFace, postStation_carousel]; exact clearPhase_phase _ _ _

theorem withdrawFace_of_none {s : State} {c : CarouselId} (h : (s.carousel c).face = none) : s.withdrawFace c = s := by
  unfold State.withdrawFace; rw [h]

theorem withdrawFace_of_some {s : State} {c : CarouselId} {p : Presentation} (h : (s.carousel c).face = some p) :
    s.withdrawFace c = (s.clearFace c p).modCarousel c fun x => { x with face := none } := by
  unfold State.withdrawFace; rw [h]; rfl

/-! ## Whole operations -/

/-- A write of an operation. -/
def Writes (s t : State) : Prop := Upd .any s t ∨ Withdraws s t

/-- `t` comes of `s` by a chain of writes; the notice queues stay within their places and the waiting commands stay. -/
structure Runs (s t : State) : Prop where
  writes : Relation.ReflTransGen Writes s t
  queues : s.queuesBounded → t.queuesBounded
  pending : t.pending = s.pending

namespace Runs

variable {s t u : State}

theorem of (h : Reaches .any s t) : Runs s t := ⟨h.writes.lift id fun _ _ => .inl, h.queues, h.pending⟩

theorem refl (s : State) : Runs s s := of (.refl _ _)

theorem trans (h : Runs s t) (h' : Runs t u) : Runs s u :=
  ⟨h.writes.trans h'.writes, h'.queues ∘ h.queues, h'.pending.trans h.pending⟩

theorem after (h' : Runs t u) (h : Runs s t) : Runs s u := h.trans h'

theorem foldl {α : Type} {f : State → α → State} (l : List α) (h : Runs s t) (one : ∀ u a, Runs u (f u a)) :
    Runs s (l.foldl f t) := by
  induction l generalizing t with
  | nil => exact h
  | cons a rest ih => exact ih (h.trans (one t a))

end Runs

variable (s : State) (c : CarouselId) (p : PortId) (rt : ReplyTo)

/-- The part of a withdrawal before the motion record is written: STOP where the carousel turns. -/
theorem withdrawMotion_eq :
    s.withdrawMotion c = (State.modMotion (if (s.motion c).state = .moving ∨ (s.motion c).state = .stopping then
      s.post (drivePort c) .stop else s) c Motion.withdrawn).returnPermit (s.motion c).state := rfl

theorem returnPermit_carousels (m : MotionState) : (s.returnPermit m).carousels = s.carousels := by
  unfold State.returnPermit; split <;> rfl
theorem returnPermit_tasks (m : MotionState) : (s.returnPermit m).tasks = s.tasks := by
  unfold State.returnPermit; split <;> rfl
theorem returnPermit_globals (m : MotionState) : (s.returnPermit m).globals = s.globals := by
  unfold State.returnPermit; split <;> rfl
theorem returnPermit_pending (m : MotionState) : (s.returnPermit m).pending = s.pending := by
  unfold State.returnPermit; split <;> rfl
theorem returnPermit_ports (m : MotionState) : (s.returnPermit m).ports = s.ports := by
  unfold State.returnPermit; split <;> rfl

theorem takeWithdraw_runs : Runs s (s.takeWithdraw rt c) := by
  unfold State.takeWithdraw
  split
  · exact .of ((Reaches.refl _ s).refuse rt _)
  · have stopped : Reaches .any s (if (s.motion c).state = .moving ∨ (s.motion c).state = .stopping then
        s.post (drivePort c) .stop else s) := by
      split
      · exact (Reaches.refl _ s).post _ _
      · exact .refl _ s
    have carousel : ∀ d, (if (s.motion c).state = .moving ∨ (s.motion c).state = .stopping then
        s.post (drivePort c) .stop else s).carousel d = s.carousel d := fun d => by split <;> rfl
    refine Runs.trans (t := (s.withdrawMotion c).withdrawFace c) ?_
      (.of ((((((Reaches.refl _ _).withdrawQueue (by decide) c).withdrawCalls c).postCarousel c).duePass).respond rt _ _))
    rw [withdrawMotion_eq]
    generalize (if (s.motion c).state = .moving ∨ (s.motion c).state = .stopping then
        s.post (drivePort c) .stop else s) = t at stopped carousel
    refine (Runs.of stopped).trans ?_
    cases face : (t.carousel c).face with
    | none =>
      rw [withdrawFace_of_none (by simpa using face)]
      exact .of (((Reaches.refl _ t).modCarousel (.withdraws rfl face)).returnPermit (by decide) _)
    | some q =>
      rw [withdrawFace_of_some (p := q) (by simpa using face)]
      have work := clearFace_reaches ((t.modMotion c Motion.withdrawn).returnPermit (s.motion c).state) c q
      refine ⟨.single (.inr ⟨c, (t.modMotion c Motion.withdrawn).returnPermit (s.motion c).state,
        ((t.modMotion c Motion.withdrawn).returnPermit (s.motion c).state).clearFace c q, ⟨?_, ?_, ?_⟩, work.writes,
        clearFace_cleared _ c q, rfl, modCarousel_tasks _ _ _, modCarousel_globals _ _ _⟩), ?_, ?_⟩
      · rw [returnPermit_carousels]; rfl
      · rw [returnPermit_tasks]; rfl
      · rw [returnPermit_globals]; rfl
      · intro bound p
        rw [modCarousel_port]
        refine work.queues (fun q => ?_) p
        rw [returnPermit_port]
        exact bound q
      · rw [modCarousel_pending]; exact work.pending.trans (returnPermit_pending _ _)

/-- Every request its block takes is a chain of writes (R154). -/
theorem take_runs (r : Request) : Runs s (s.take rt r) := by
  have h := Reaches.refl .any s
  cases r with
  | withdraw c => exact takeWithdraw_runs s c rt
  | configure item v => exact .of (h.takeConfigure rt item v)
  | enrol c => exact .of (h.takeEnrol rt)
  | hold c on => exact .of (h.takeHold rt on)
  | readStatus => exact .of (h.respond rt _ _)
  | restart => exact .of (h.respond rt _ _)
  | readCarousel c => exact .of (h.respond rt _ _)
  | loadBay r lot count => exact .of (h.takeLoadBay rt r lot count)
  | readBay r =>
    simp only [State.take, State.takeReadBay]
    split
    · exact .of (h.refuse rt _)
    · exact .of (h.respond rt _ _)
  | readCarrier c k =>
    simp only [State.take, State.takeReadCarrier]
    split
    · exact .of (h.refuse rt _)
    · exact .of (h.respond rt _ _)
  | findLots article => exact .of (h.respond rt _ _)
  | putRequest lot count pref => exact .of (h.takePutRequest rt lot count pref)
  | putCancel t => exact .of (h.takePutCancel rt t)
  | orderOpen l ref urgent => exact .of (h.takeOrderOpen rt l ref urgent)
  | orderLines l final lines => exact .of (h.takeOrderLines rt l final lines)
  | orderCancel l => exact .of (h.takeOrderCancel rt l)
  | readLane l p => exact .of (h.respond rt _ _)
  | auditCarrier c k mode => exact .of (h.takeAuditCarrier rt k mode)
  | auditSweep c first n rep il mode => exact .of (h.takeAuditSweep rt first n rep il mode)
  | auditStop c => exact .of (h.takeAuditStop rt)
  | readDiscrepancy id => exact .of (h.takeReadDiscrepancy rt id)
  | discAck i => exact .of (h.takeDiscAck rt i)
  | resolve i d => exact .of (h.takeResolve rt i d)
  | pickConfirm t k => exact .of (h.takePickConfirm rt t k)
  | putConfirm t j => exact .of (h.takePutConfirm rt t j)
  | auditCount c b counted => exact .of (h.takeAuditCount rt b counted)
  | faceRelease c k => exact .of (h.takeFaceRelease rt k)
  | resume c => exact .of (h.takeResume rt)
  | readFace c first => exact .of (h.respond rt _ _)
  | position offset => exact .of (h.takePosition rt offset)
  | arrived offset => exact .of (h.takeArrived rt offset)
  | stopped offset => exact .of (h.takeStopped rt offset)
  | fault code => exact .of (h.takeFault rt code)
  | ready => exact .of (h.takeReady rt)
  | arrival l article week => exact .of (h.takeArrival rt l article week)
  | laneRelease l => exact .of (h.takeLaneRelease rt l)
  | laneEmpty l => exact .of (h.takeLaneEmpty rt l)
  | strayClear l n => exact .of (h.takeStrayClear rt l n)

/-! ## The dispatcher and the links -/

theorem serve_runs (f : Frame) : Runs s (s.serve p f) := by
  have h := Reaches.refl .any s
  unfold State.serve
  dsimp only
  split
  · exact .of (h.refuse _ _)
  · split
    · exact .of (h.refuse _ _)
    · split
      · exact .of (h.refuse _ _)
      · split
        · exact .of (h.refuse _ _)
        · split
          · exact take_runs s _ _
          · exact .of (h.refuse _ _)

/-- A write of one port that brings no notice. -/
theorem modPort_runs {f : Port → Port} (queue : ∀ x, (f x).queue.length ≤ x.queue.length) : Runs s (s.modPort p f) :=
  .of ((Reaches.refl _ s).modPort p fun x => (queue x).trans)

theorem dispatch_runs : Runs s (s.dispatch p) := by
  unfold State.dispatch
  split
  · exact .refl s
  · split
    · exact .refl s
    · exact (serve_runs _ p _).after (modPort_runs s p fun _ => le_refl _)

theorem acceptFrame_runs (f : Frame) : Runs s (s.acceptFrame p f) := by
  unfold State.acceptFrame
  split
  · exact modPort_runs s p fun _ => le_refl _
  · exact (dispatch_runs _ p).after (modPort_runs s p fun _ => le_refl _)

theorem endFrame_runs (e : FrameEnd) : Runs s (s.endFrame p e) := by
  have hunts : Runs s (s.modPort p fun x => { x with receiver := .hunting }) := modPort_runs s p fun _ => le_refl _
  unfold State.endFrame
  dsimp only
  split
  · split
    · exact hunts.trans (acceptFrame_runs _ p _)
    · exact hunts.trans (modPort_runs _ p fun _ => le_refl _)
  all_goals exact hunts.trans (modPort_runs _ p fun _ => le_refl _)

theorem endGap_runs : Runs s (s.endGap p) := by
  unfold State.endGap
  split
  · exact .refl s
  · exact modPort_runs s p fun _ => le_refl _

theorem receiveCharacter_runs (value : Byte) (parity framing : Bool) :
    Runs s (s.receiveCharacter p value parity framing) := by
  unfold State.receiveCharacter
  split
  · split
    · exact modPort_runs s p fun _ => le_refl _
    · exact .refl s
  · split
    · exact endFrame_runs s p _
    · split
      · exact endFrame_runs s p _
      · exact modPort_runs s p fun _ => le_refl _

theorem sendOn_runs : Runs s (s.sendOn p) :=
  (modPort_runs s p startNext_queue_le).trans (dispatch_runs _ p)

theorem finishFrame_runs : Runs s (s.finishFrame p) := by
  unfold State.finishFrame
  split
  · exact .refl s
  · split
    · exact .of ((Reaches.refl _ s).restart _)
    · exact (sendOn_runs _ p).after (modPort_runs s p fun _ => le_refl _)

theorem operation_runs {f : State → State} (h : ∀ u, Runs u (f u)) : Runs s (s.operation f) := by
  unfold State.operation
  split
  · exact .refl s
  · exact ((Runs.of ((Reaches.refl _ s).begin (by decide))).trans (h _)).trans
      (.of ((Reaches.refl _ _).settle (by decide)))

theorem request_runs (h : Header) (code : RequestCode) (payload : List Byte) : Runs s (s.request h code payload) :=
  operation_runs s fun u => endFrame_runs u h.port _

/-! ## Commands, ticks and steps -/

theorem changeGuard_runs (level : GuardLevel) : Runs s (s.changeGuard c level) := by
  have changed : Runs s ((s.setGuardLine c level).operation fun x => x.guardEvent c level) :=
    (Runs.of ((Reaches.refl _ s).modCarousel (.guardLine rfl level))).trans
      (operation_runs _ fun u => .of ((Reaches.refl _ u).guardEvent level))
  unfold State.changeGuard
  dsimp only
  split
  · exact changed.trans (operation_runs _ fun u => .of (Reaches.refl _ u).expireStop)
  · exact changed

/-- A request command is its good frame arriving (log entry 5). -/
theorem exec_of_request? {i : Instr} {h : Header} {code : RequestCode} {payload : List Byte}
    (e : i.request? = some (h, code, payload)) (s : State) : exec i s = .next (s.request h code payload) := by
  cases i <;> cases e <;> rfl

/-- Every command answers a next state, and that state comes of the one before by a chain of writes. -/
theorem exec_runs (i : Instr) : ∃ t, exec i s = .next t ∧ Runs s t := by
  cases e : i.request? with
  | some x =>
    obtain ⟨h, code, payload⟩ := x
    exact ⟨_, exec_of_request? e s, request_runs s h code payload⟩
  | none =>
    cases i with
    | guardChange c level => exact ⟨_, rfl, changeGuard_runs s c level⟩
    | restartInput => exact ⟨_, rfl, .of (Reaches.refl _ s).assertRestart⟩
    | restartInputRelease => exact ⟨_, rfl, .of (Reaches.refl _ s).releaseRestart⟩
    | warmRestart =>
      refine ⟨_, rfl, operation_runs s fun u => ?_⟩
      split
      · exact .of ((Reaches.refl _ u).restart _)
      · exact .refl u
    | powerOn => exact ⟨_, rfl, .of (Reaches.refl _ s).powerOn⟩
    | frameReceived p ending => exact ⟨_, rfl, operation_runs s fun u => endFrame_runs u p ending⟩
    | frameGapExpiry p => exact ⟨_, rfl, operation_runs s fun u => endGap_runs u p⟩
    | frameSent p => exact ⟨_, rfl, operation_runs s fun u => finishFrame_runs u p⟩
    | holdInput p asserted =>
      exact ⟨_, rfl, (operation_runs _ fun u => sendOn_runs u p).after (modPort_runs s p fun _ => le_refl _)⟩
    | orderOpenTimerExpiry l =>
      exact ⟨_, rfl, operation_runs s fun u => .of ((Reaches.refl _ u).expireOrderOpen l)⟩
    | moveTimerExpiry c => exact ⟨_, rfl, operation_runs s fun u => .of (Reaches.refl _ u).expireMove⟩
    | stopTimerExpiry c => exact ⟨_, rfl, operation_runs s fun u => .of (Reaches.refl _ u).expireStop⟩
    | characterReceived p value parity framing =>
      exact ⟨_, rfl, operation_runs s fun u => receiveCharacter_runs u p value parity framing⟩
    | powerOnReset => exact ⟨_, rfl, .of (Reaches.refl _ s).powerOnReset⟩
    | _ => cases e

theorem tickLane_runs (l : LaneId) : Runs s (s.tickLane l) := by
  unfold State.tickLane
  split
  · exact operation_runs s fun u => .of ((Reaches.refl _ u).expireOrderOpen l)
  · exact .refl s

theorem tickCarousel_runs : Runs s (s.tickCarousel c) := by
  unfold State.tickCarousel
  split
  · exact operation_runs s fun u => .of (Reaches.refl _ u).expireMove
  · split
    · exact operation_runs s fun u => .of (Reaches.refl _ u).expireStop
    · exact .refl s

theorem tick_runs : Runs s s.tick := by
  unfold State.tick
  split
  · exact .refl s
  · exact (Runs.foldl _ (Runs.foldl _ (.of (Reaches.refl _ s).countTimers) tickLane_runs) tickCarousel_runs).trans
      (operation_runs _ fun u => .of (Reaches.refl _ u).dueSelect)

/-- A step is a chain of writes from the state with the rest of the waiting commands. -/
theorem step_runs {s t : State} (h : step s = .next t) : ∃ rest, Runs { s with pending := rest } t := by
  unfold step at h
  split at h
  · next empty =>
    cases h
    refine ⟨[], ?_⟩
    have same : ({ s with pending := [] } : State) = s := by rw [← empty]
    rw [same]
    exact tick_runs s
  · next i rest _ =>
    obtain ⟨u, e, run⟩ := exec_runs { s with pending := rest } i
    rw [e] at h; cases h
    exact ⟨rest, run⟩

/-- A law that every elementary write and every withdrawal keeps is kept by every step. -/
theorem step_keeps {law : State → Prop} (queue : ∀ {s rest}, law s → law { s with pending := rest })
    (upd : ∀ {u v : State}, Upd .any u v → law u → law v) (withdraw : ∀ {u v : State}, Withdraws u v → law u → law v)
    {s t : State} (holds : law s) (h : step s = .next t) : law t := by
  obtain ⟨rest, run⟩ := step_runs h
  have start : law { s with pending := rest } := queue holds
  generalize ({ s with pending := rest } : State) = u at run start
  have chain := run.writes
  clear run h
  induction chain with
  | refl => exact start
  | tail _ w ih => exact w.elim (fun w => upd w ih) fun w => withdraw w ih

end Sys2Proof.Machine

/-! The laws that every step keeps (R30, R76, R81, R86, R100, R157, Tables 6-1, 10-1 and 10-2): each is kept by every
elementary write and by a withdrawal. -/

namespace Sys2Proof.Machine

/-! ## Laws of one carousel -/

theorem carousel_of_put {s t : State} {c : CarouselId} {y : Carousel} (h : t.carousels = put s.carousels c y)
    (d : CarouselId) : t.carousel d = if c = d then y else s.carousel d := by
  rw [State.carousel, h, look_put]; rfl

theorem carousel_of_carousels {s t : State} (h : t.carousels = s.carousels) (d : CarouselId) :
    t.carousel d = s.carousel d := by rw [State.carousel, h]; rfl

/-- What makes a law of each carousel outlive every elementary write. -/
structure CarouselLaw (k : Duty) (L : CarouselId → Carousel → Prop) : Prop where
  turns : ∀ {c x y}, Turn k x y → L c x → L c y
  moves : ∀ {c x w time}, k ≠ .release → x.motion.chosen ≠ none →
    (x.motion.state = .suspended ∨ x.motion.state = .waitPermit) → L c x →
      L c { x with motion := x.motion.moved w time }
  closes : ∀ {c x p y}, k ≠ .release → x.Closes p y → L c x → L c y
  restarts : ∀ {c x}, k = .any → L c x → L c x.restarted
  powersOn : ∀ {c line}, k = .any → L c (Carousel.atPowerOn c line)

theorem CarouselLaw.upd {k : Duty} {L : CarouselId → Carousel → Prop} (law : CarouselLaw k L) {s t : State}
    (h : Upd k s t) {c : CarouselId} (holds : L c (s.carousel c)) : L c (t.carousel c) := by
  cases h with
  | elsewhere carousels => rwa [carousel_of_carousels carousels]
  | turns turn =>
    rcases turn c with same | turn
    · rwa [same]
    · exact law.turns turn holds
  | task _ _ _ carousels => rwa [carousel_of_carousels carousels]
  | moves duty d w time chosen permitted carousels =>
    rw [carousel_of_put carousels]
    split
    · next e => subst e; exact law.moves duty chosen (permitted.imp And.right And.left) holds
    · exact holds
  | closes duty d p y closes _ carousels =>
    rw [carousel_of_put carousels]
    split
    · next e => subst e; exact law.closes duty closes holds
    · exact holds
  | globals _ _ _ carousels => rwa [carousel_of_carousels carousels]
  | restarts any carousels => rw [carousels]; exact law.restarts any holds
  | powersOn any carousels =>
    obtain ⟨line, e⟩ := carousels c
    rw [e]; exact law.powersOn any

/-- What every write of a chain keeps, the chain keeps. -/
theorem chain_keeps {R : State → State → Prop} {law : State → Prop} (one : ∀ {u v}, R u v → law u → law v) {s t : State}
    (h : Relation.ReflTransGen R s t) (holds : law s) : law t := by
  induction h with
  | refl => exact holds
  | tail _ w ih => exact one w ih

theorem CarouselLaw.chain {k : Duty} {L : CarouselId → Carousel → Prop} (law : CarouselLaw k L) {s t : State}
    (h : Relation.ReflTransGen (Upd k) s t) {c : CarouselId} (holds : L c (s.carousel c)) : L c (t.carousel c) :=
  chain_keeps (law := fun s => L c (s.carousel c)) (fun w => law.upd w) h holds

/-- A law that looks at neither the motion record nor the face but to ask less of an empty one. -/
theorem CarouselLaw.step {L : CarouselId → Carousel → Prop} (law : CarouselLaw .any L)
    (motion : ∀ {c x}, L c x → L c { x with motion := x.motion.withdrawn })
    (face : ∀ {c x}, L c x → L c { x with face := none }) {s t : State} (holds : ∀ c, L c (s.carousel c))
    (h : Sys2Proof.Machine.step s = .next t) : ∀ c, L c (t.carousel c) := by
  refine step_keeps (law := fun s => ∀ c, L c (s.carousel c)) (fun h => h) (fun w holds c => law.upd w (holds c))
    (fun w holds => ?_) holds h
  obtain ⟨d, u, v, ⟨first, _, _⟩, work, _, last, _, _⟩ := w.steps
  have started : ∀ c, L c (u.carousel c) := fun c => by
    rw [carousel_of_put first]
    split
    · next e => subst e; exact motion (holds d)
    · exact holds c
  have worked := fun c => law.chain (work.lift id fun _ _ => Upd.any) (started c)
  intro c
  rw [carousel_of_put last]
  split
  · next e => subst e; exact face (worked d)
  · exact worked c

/-! ## OVERWEIGHT (R30) -/

def Carousel.overweightTrue (x : Carousel) : Prop := x.balance.overweight = decide (x.cfg.hardLimit < x.balance.peak)

theorem overweightTrue_law : CarouselLaw .any fun _ => Carousel.overweightTrue where
  turns turn holds := by
    cases turn with
    | balance _ _ right => exact right
    | settings _ g b _ right =>
      rcases right with ⟨rfl, hard⟩ | right
      · exact holds.trans (by rw [hard])
      · exact right
    | _ => exact holds
  moves _ _ _ holds := holds
  closes _ closes holds := by
    obtain ⟨m, calls, _, _, rfl⟩ := closes.leaves
    exact holds
  restarts _ _ := rfl
  powersOn _ := rfl

/-- Settles O59: each change of the peak or the hard limit comes with the OVERWEIGHT test. -/
theorem everyStepKeepsOverweightTrue : Obligations.EveryStepKeepsOverweightTrue :=
  fun _ _ holds h => overweightTrue_law.step (fun h => h) (fun h => h) holds h

/-! ## The call queues (R76, R81) -/

theorem passes_law : CarouselLaw .any fun _ x => ∀ q ∈ x.calls, q.passes ≤ Config.ageLimit where
  turns turn holds := by
    cases turn with
    | filters keep => exact fun q m => holds q (List.mem_filter.mp m).1
    | marks f _ passes =>
      intro q m
      obtain ⟨r, mem, rfl⟩ := List.mem_map.mp m
      exact passes r (holds r mem)
    | raises r fresh =>
      intro q m
      rcases List.mem_append.mp m with m | m
      · exact holds q m
      · rw [List.mem_singleton.mp m, fresh]; exact Nat.zero_le _
    | presents =>
      intro q m
      obtain ⟨r, mem, rfl⟩ := List.mem_map.mp m
      exact holds r (List.mem_filter.mp mem).1
    | _ => exact holds
  moves _ _ _ holds := holds
  closes _ closes holds := by
    obtain ⟨m, calls, _, left, rfl⟩ := closes.leaves
    obtain rfl | ⟨r, _, fresh, rfl⟩ := left
    · exact holds
    · intro q m
      rcases List.mem_append.mp m with m | m
      · exact holds q m
      · rw [List.mem_singleton.mp m, fresh]; exact Nat.zero_le _
  restarts _ _ := fun _ m => absurd m List.not_mem_nil
  powersOn _ := fun _ m => absurd m List.not_mem_nil

/-- Fewer calls, each of a carrier that had one, are still one per carrier. -/
theorem oneCallPerCarrier_of_sublist {x y : Carousel} (holds : x.oneCallPerCarrier)
    (calls : (y.calls.map Call.carrier).Sublist (x.calls.map Call.carrier))
    (face : y.face.map Presentation.carrier = x.face.map Presentation.carrier) : y.oneCallPerCarrier := by
  refine ⟨holds.1.sublist calls, fun p presented m => ?_⟩
  rw [presented] at face
  obtain ⟨q, presented', e⟩ := Option.map_eq_some_iff.mp face.symm
  exact holds.2 q presented' (e ▸ calls.subset m)

/-- A new call of a carrier that has none is still one per carrier. -/
theorem nodup_append_call {calls : List Call} {q : Call} (once : (calls.map Call.carrier).Nodup)
    (absent : q.carrier ∉ calls.map Call.carrier) : ((calls ++ [q]).map Call.carrier).Nodup := by
  rw [List.map_append, List.nodup_append]
  exact ⟨once, by simp, fun a m b m' => by
    rw [List.map_singleton, List.mem_singleton] at m'
    rintro rfl; exact absent (m' ▸ m)⟩

theorem callFor_eq_none {x : Carousel} {k : CarrierId} (h : x.callFor k = none) : k ∉ x.calls.map Call.carrier := by
  intro m
  obtain ⟨q, m, e⟩ := List.mem_map.mp m
  simpa [e] using List.find?_eq_none.mp h q m

theorem oneCall_law : CarouselLaw .any fun _ => Carousel.oneCallPerCarrier where
  turns turn holds := by
    cases turn with
    | filters keep => exact oneCallPerCarrier_of_sublist holds (List.Sublist.map _ List.filter_sublist) rfl
    | marks f carrier =>
      exact oneCallPerCarrier_of_sublist holds (by simp [Function.comp_def, carrier]) rfl
    | raises q _ absent away =>
      have absent := callFor_eq_none absent
      refine ⟨nodup_append_call holds.1 absent, fun p presented m => ?_⟩
      dsimp only at presented m
      rw [List.map_append, List.mem_append, List.map_singleton, List.mem_singleton] at m
      rcases m with m | e
      · exact holds.2 p presented m
      · simp [Carousel.presents, presented, e] at away
    | face f carrier =>
      refine oneCallPerCarrier_of_sublist holds (List.Sublist.refl _) ?_
      simp [Function.comp_def, carrier]
    | presents _ _ _ _ k =>
      refine ⟨holds.1.sublist ?_, fun p presented m => ?_⟩
      · simp only [List.map_map]
        exact List.Sublist.map _ List.filter_sublist
      · cases presented
        simp only [List.map_map, List.mem_map, List.mem_filter] at m
        obtain ⟨a, ⟨_, other⟩, same⟩ := m
        exact of_decide_eq_true other same
    | blames => exact oneCallPerCarrier_of_sublist holds (List.Sublist.refl _) (by simp [Function.comp_def])
    | _ => exact holds
  moves _ _ _ holds := holds
  closes _ closes holds := by
    obtain ⟨m, calls, _, left, rfl⟩ := closes.leaves
    refine ⟨?_, fun p e => nomatch e⟩
    obtain rfl | ⟨q, carrier, _, rfl⟩ := left
    · exact holds.1
    · exact nodup_append_call holds.1 (carrier ▸ holds.2 _ closes.presented)
  restarts _ _ := ⟨List.nodup_nil, fun _ e => nomatch e⟩
  powersOn _ := ⟨List.nodup_nil, fun _ e => nomatch e⟩

/-- Settles O54: a call is raised only where its carrier has none and is not presented, or for the carrier whose
presentation ends; a count of passes is raised up to 8. -/
theorem everyStepKeepsTheCallQueues : Obligations.EveryStepKeepsTheCallQueues :=
  ⟨fun _ _ holds h => oneCall_law.step (fun h => h) (fun h => ⟨h.1, fun _ e => nomatch e⟩) holds h,
   fun _ _ holds h => passes_law.step (fun h => h) (fun h => h) holds h⟩

/-! ## Notice queues (R157) -/

/-- Settles O55: every write of a port takes a notice into a queue with a free place, or none. -/
theorem everyStepKeepsTheQueuesAtEight : Obligations.EveryStepKeepsTheQueuesAtEight := by
  intro s t holds h
  obtain ⟨rest, run⟩ := step_runs h
  exact run.queues holds

/-! ## Configuration (Tables 10-1 and 10-2) -/

theorem default_legal (c : CarouselId) : (CarouselConfig.default c).legal := by
  simp [CarouselConfig.legal, CarouselConfig.default]

theorem globals_default_legal : Globals.default.legal := by
  simp [Globals.legal, Globals.default]

theorem legal_law : CarouselLaw .any fun _ x => x.cfg.legal where
  turns turn holds := by
    cases turn with
    | settings _ _ _ legal => exact legal holds
    | _ => exact holds
  moves _ _ _ holds := holds
  closes _ closes holds := by
    obtain ⟨m, calls, _, _, rfl⟩ := closes.leaves
    exact holds
  restarts _ holds := holds
  powersOn _ := default_legal _

theorem globals_legal_upd {s t : State} (h : Upd .any s t) (holds : s.globals.legal) : t.globals.legal := by
  cases h with
  | globals _ legal => exact legal holds
  | powersOn _ _ _ globals => rw [globals]; exact globals_default_legal
  | elsewhere _ _ globals => rwa [globals]
  | turns _ _ globals => rwa [globals]
  | task _ _ _ _ _ globals => rwa [globals]
  | moves _ _ _ _ _ _ _ _ globals => rwa [globals]
  | closes _ _ _ _ _ _ _ _ globals => rwa [globals]
  | restarts _ _ _ globals => rwa [globals]

/-- Settles O56: CONFIGURE writes an item only within its range (Table 10-3, checks 2 and 5). -/
theorem everyStepKeepsTheConfigurationLegal : Obligations.EveryStepKeepsTheConfigurationLegal := by
  intro s t ⟨globals, carousels⟩ h
  refine ⟨step_keeps (law := fun s => s.globals.legal) (fun h => h) globals_legal_upd (fun w holds => ?_) globals h,
    legal_law.step (fun h => h) (fun h => h) carousels h⟩
  obtain ⟨d, u, v, ⟨_, _, first⟩, work, _, _, _, last⟩ := w.steps
  rw [last]
  have started : u.globals.legal := by rwa [first]
  exact chain_keeps (law := fun s => s.globals.legal) (fun w => globals_legal_upd w.any) work started

end Sys2Proof.Machine

/-! The laws of motion and of the face that every step keeps (R86, R100, Table 6-1), and the state after reset. -/

namespace Sys2Proof.Machine

/-! ## Permits (R100) -/

theorem permitsHeld_mono {s t : State}
    (h : ∀ c, (t.motion c).state.holdsPermit = true → (s.motion c).state.holdsPermit = true) :
    t.permitsHeld ≤ s.permitsHeld := by
  unfold State.permitsHeld
  rw [← List.countP_eq_length_filter, ← List.countP_eq_length_filter]
  exact List.countP_mono_left fun c _ => h c

/-- One carousel more that holds a permit is one permit more. -/
theorem permitsHeld_le_succ {s t : State} (d : CarouselId)
    (h : ∀ c, c ≠ d → (t.motion c).state.holdsPermit = true → (s.motion c).state.holdsPermit = true) :
    t.permitsHeld ≤ s.permitsHeld + 1 := by
  unfold State.permitsHeld
  rw [← List.countP_eq_length_filter, ← List.countP_eq_length_filter]
  calc carouselIds.countP (fun c => (t.motion c).state.holdsPermit)
      ≤ carouselIds.countP (fun c => (s.motion c).state.holdsPermit || c == d) := by
        refine List.countP_mono_left fun c _ holds => ?_
        by_cases e : c = d
        · simp [e]
        · simp [h c e holds]
    _ ≤ carouselIds.countP (fun c => (s.motion c).state.holdsPermit) + carouselIds.countP (· == d) := by
        generalize carouselIds = l
        induction l with
        | nil => simp
        | cons a rest ih =>
          simp only [List.countP_cons]
          by_cases p : (s.motion a).state.holdsPermit = true <;> by_cases q : a = d <;> simp_all <;> omega
    _ ≤ _ := by
        have once : carouselIds.countP (· == d) = 1 := by
          clear h; revert d; decide
        omega

theorem Motion.Goes.holdsPermit {k : Duty} {m m' : Motion} (h : m.Goes k m') (holds : m'.state.holdsPermit = true) :
    m.state.holdsPermit = true := by
  cases h with
  | stops _ moving => rw [moving]; rfl
  | suspends _ stopping => rw [stopping]; rfl
  | flags => exact holds
  | blames => exact holds
  | ticks => exact holds
  | _ => cases holds

theorem Turn.holdsPermit {k : Duty} {x y : Carousel} (h : Turn k x y) (holds : y.motion.state.holdsPermit = true) :
    x.motion.state.holdsPermit = true := by
  cases h with
  | motion _ goes => exact goes.holdsPermit holds
  | presents => cases holds
  | faults => cases holds
  | withdraws => cases holds
  | _ => exact holds

theorem Motion.Leaves.holdsPermit {m m' : Motion} {flag : Bool} (h : m.Leaves flag m') :
    m'.state.holdsPermit = false := by
  cases h <;> rfl

theorem Motion.restarted_holdsPermit (line : GuardLevel) (m : Motion) :
    (m.restarted line).state.holdsPermit = false := by
  unfold Motion.restarted
  split
  · next out => rcases (outOfService_iff _).mp out with e | e <;> simp [e, MotionState.holdsPermit]
  · rfl

theorem State.permitsBounded_of_le {s t : State} (holds : s.permitsBounded) (held : t.permitsHeld ≤ s.permitsHeld)
    (globals : t.globals = s.globals) : t.permitsBounded := by
  unfold State.permitsBounded at *
  rw [globals]; exact held.trans holds

theorem permitsHeld_of_carousels {s t : State} (h : t.carousels = s.carousels) : t.permitsHeld = s.permitsHeld := by
  simp [State.permitsHeld, State.motion, carousel_of_carousels h]

/-- A MOVE needs a free permit, or the carousel holds one (R101, R108); every other write returns permits or keeps
them. -/
theorem permitsBounded_upd {k : Duty} {s t : State} (h : Upd k s t) (holds : s.permitsBounded) : t.permitsBounded := by
  cases h with
  | elsewhere carousels _ globals => exact s.permitsBounded_of_le holds (permitsHeld_of_carousels carousels).le globals
  | turns turn _ globals =>
    refine s.permitsBounded_of_le holds (permitsHeld_mono fun c permit => ?_) globals
    rcases turn c with same | turn
    · rwa [State.motion, same] at permit
    · exact turn.holdsPermit permit
  | task _ _ _ carousels _ globals => exact s.permitsBounded_of_le holds (permitsHeld_of_carousels carousels).le globals
  | moves _ d w time chosen permitted carousels _ globals =>
    have others : ∀ c, c ≠ d → t.carousel c = s.carousel c := fun c e => by
      rw [carousel_of_put carousels, if_neg (Ne.symm e)]
    rcases permitted with ⟨_, suspended⟩ | ⟨_, free⟩
    · refine s.permitsBounded_of_le holds (permitsHeld_mono fun c permit => ?_) globals
      by_cases e : c = d
      · rw [e, suspended]; rfl
      · rwa [State.motion, others c e] at permit
    · have := permitsHeld_le_succ (s := s) (t := t) d fun c e permit => by rwa [State.motion, others c e] at permit
      unfold State.permitsBounded
      rw [globals]; omega
  | closes _ d p y closes _ carousels _ globals =>
    refine s.permitsBounded_of_le holds (permitsHeld_mono fun c permit => ?_) globals
    rw [State.motion, carousel_of_put carousels] at permit
    split at permit
    · obtain ⟨m, calls, leaves, _, rfl⟩ := closes.leaves
      exact absurd permit (by simp [leaves.holdsPermit])
    · exact permit
  | globals _ _ permits carousels =>
    unfold State.permitsBounded at *
    rw [permitsHeld_of_carousels carousels]
    rcases permits with same | none
    · rwa [same]
    · rw [none]; exact Nat.zero_le _
  | restarts _ carousels _ globals =>
    refine s.permitsBounded_of_le holds (permitsHeld_mono fun c permit => ?_) globals
    rw [State.motion, carousels c] at permit
    exact absurd permit (by simp [Carousel.restarted, Carousel.rebalanced, Motion.restarted_holdsPermit])
  | powersOn _ carousels =>
    refine le_trans (le_of_eq ?_) (Nat.zero_le _)
    have none : ∀ c, (t.motion c).state.holdsPermit = false := fun c => by
      obtain ⟨line, e⟩ := carousels c
      rw [State.motion, e]; rfl
    simp [State.permitsHeld, none]

/-- Settles O53: a grant needs a free permit, RESUME moves a carousel that holds one, and P changes only while none is
held. -/
theorem everyStepKeepsThePermitLimit : Obligations.EveryStepKeepsThePermitLimit := by
  intro s t holds h
  refine step_keeps (law := State.permitsBounded) (fun h => h) permitsBounded_upd (fun w holds => ?_) holds h
  obtain ⟨d, u, v, ⟨first, _, globals⟩, work, _, last, _, globals'⟩ := w.steps
  have started : u.permitsBounded := State.permitsBounded_of_le holds (permitsHeld_mono fun c permit => by
    rw [State.motion, carousel_of_put first] at permit
    split at permit
    · cases permit
    · exact permit) globals
  have worked : v.permitsBounded := chain_keeps (law := State.permitsBounded) (fun w => permitsBounded_upd w) work started
  refine State.permitsBounded_of_le worked (permitsHeld_mono fun c permit => ?_) globals'
  rw [State.motion, carousel_of_put last] at permit
  split at permit
  · next e => subst e; exact permit
  · exact permit

/-! ## Motion records (Table 6-1) -/

theorem Motion.Goes.release {m m' : Motion} (h : m.Goes .release m') (still : m.state ≠ .waitPermit) : m' = m := by
  cases h with
  | drops waiting => exact absurd waiting still
  | flags any => cases any
  | waits duty => exact absurd rfl duty
  | stops any => cases any
  | suspends any => cases any
  | blames any => cases any
  | unsyncs any => cases any
  | syncs any => cases any
  | rests duty => exact absurd rfl duty
  | ticks any => cases any

/-- Taking tasks away leaves a motion record outside WAIT_PERMIT as it was. -/
theorem withdrawn_law (m : Motion) (still : m.state ≠ .waitPermit) : CarouselLaw .release fun _ x => x.motion = m where
  turns turn holds := by
    cases turn with
    | motion _ goes => subst holds; exact goes.release still
    | presents duty => exact absurd rfl duty
    | faults any => cases any
    | blames any => cases any
    | withdraws any => cases any
    | _ => exact holds
  moves duty := absurd rfl duty
  closes duty := absurd rfl duty
  restarts any := nomatch any
  powersOn any := nomatch any

/-- A withdrawal leaves every carousel as the law says, where the law holds of a withdrawn carousel and of every
other. -/
theorem CarouselLaw.withdraws {L : CarouselId → Carousel → Prop} (law : CarouselLaw .any L)
    (withdrawn : ∀ {c x m}, x.motion = Motion.withdrawn m → x.phase = none → x.face = none → L c x) {s t : State}
    (w : Withdraws s t) (holds : ∀ c, L c (s.carousel c)) (c : CarouselId) : L c (t.carousel c) := by
  obtain ⟨d, u, v, ⟨first, _, _⟩, work, ⟨_, noPhase⟩, last, _, _⟩ := w.steps
  by_cases e : d = c
  · subst e
    have motion := (withdrawn_law (s.motion d).withdrawn (by simp [Motion.withdrawn, Motion.rest])).chain work
      (c := d) (by simp [carousel_of_put first])
    exact withdrawn (m := s.motion d) (by simp [carousel_of_put last, motion]) (by simp [carousel_of_put last, noPhase])
      (by simp [carousel_of_put last])
  · have started : L c (u.carousel c) := by rw [carousel_of_put first, if_neg e]; exact holds c
    rw [carousel_of_put last, if_neg e]
    exact law.chain (work.lift id fun _ _ => Upd.any) started

/-- What Table 6-1 says of the motion record alone; `flag` is the fault flag of the presentation. -/
def Motion.right (m : Motion) (flag : Bool) : Prop :=
  (m.state ∈ [.offline, .unsynced, .withdrawn] → m.held = none)
    ∧ (m.state ∈ [.idle, .waitPermit, .moving, .stopping, .suspended, .presenting] → m.held ≠ none)
    ∧ (m.chosen ≠ none ↔ m.state ∈ [.waitPermit, .moving, .stopping, .suspended])
    ∧ (m.lastMove ≠ none ↔ m.state ∈ [.moving, .stopping, .suspended])
    ∧ (m.moveTimer ≠ none ↔ m.state = .moving)
    ∧ (m.stopTimer ≠ none ↔ m.state = .stopping)
    ∧ (m.fault ≠ none ↔ m.state = .faulted ∨ flag = true)

/-- A presentation is there exactly in PRESENTING. -/
def Carousel.faceRight (x : Carousel) : Prop := x.face ≠ none ↔ x.motion.state = .presenting

/-- The fault flag of the presentation. -/
def Carousel.flagged (x : Carousel) : Bool := (x.face.map Presentation.faultFlag).getD false

theorem Carousel.motionRight_iff (x : Carousel) :
    x.motionRight ↔ x.motion.right x.flagged ∧ x.faceRight ∧ (x.phase ≠ none → x.face ≠ none) := by
  have flagged : (x.face.map Presentation.faultFlag) = some true ↔ x.flagged = true := by
    unfold Carousel.flagged; cases x.face <;> simp
  simp only [Carousel.motionRight, Motion.right, Carousel.faceRight, flagged, and_assoc]

theorem countDown_eq_none (t : Option Nat) : countDown t = none ↔ t = none := by cases t <;> simp [countDown]

theorem Motion.Goes.presenting {k : Duty} {m m' : Motion} (h : m.Goes k m') :
    m'.state = .presenting ↔ m.state = .presenting := by
  cases h with
  | drops e => simp [e]
  | waits _ e => simp [e]
  | stops _ e => simp [e]
  | suspends _ e => simp [e]
  | unsyncs _ out => simp at out; rcases out with e | e | e <;> simp [e, Motion.unsync, Motion.rest]
  | syncs _ e => simp [e, Motion.rest]
  | rests _ turned =>
    simp [MotionState.mayPresent] at turned; rcases turned with e | e | e | e <;> simp [e, Motion.rest]
  | _ => rfl

/-- A held offset after a write is there where the one before was. -/
theorem HeldOn.ne_none {k : Duty} {m : Motion} {held : Option Nat} (h : HeldOn k m held) (there : m.held ≠ none) :
    held ≠ none := by
  rcases h with rfl | ⟨_, h⟩ <;> assumption

theorem Motion.right.fault {m : Motion} {flag : Bool} (h : m.right flag) :
    m.fault ≠ none ↔ m.state = .faulted ∨ flag = true := by
  obtain ⟨_, _, _, _, _, _, fault⟩ := h
  exact fault

theorem Motion.right.held_of_mayPresent {m : Motion} {flag : Bool} (h : m.right flag) (turned : m.state.mayPresent) :
    m.held ≠ none :=
  h.2.1 (by simp only [MotionState.mayPresent, List.mem_cons] at turned ⊢; tauto)

theorem MotionState.mayPresent.ne {x : MotionState} (h : x.mayPresent) : x ≠ .presenting ∧ x ≠ .faulted := by
  constructor <;> rintro rfl <;> simp [MotionState.mayPresent] at h

/-- A record at rest in IDLE or PRESENTING, with an offset held. -/
theorem Motion.rest_right {m : Motion} {x : MotionState} {flag : Bool} {held : Option Nat} (h : held ≠ none)
    (rests : x = .idle ∨ x = .presenting) (fault : m.fault ≠ none ↔ flag = true) :
    Motion.right { m.rest x with held := held } flag := by
  rcases rests with rfl | rfl <;> simpa [Motion.right, Motion.rest, h] using fault

theorem Motion.Goes.right {k : Duty} {m m' : Motion} {flag : Bool} (h : m.Goes k m') (holds : m.right flag)
    (flagged : flag = true → m.state = .presenting) : m'.right flag := by
  cases h with
  | flags => exact holds
  | drops e => simp_all [Motion.right]
  | waits _ e => simp_all [Motion.right]
  | stops _ e => simp_all [Motion.right]
  | suspends _ e => simp_all [Motion.right]
  | blames _ e => simp_all [Motion.right]
  | unsyncs _ out =>
    have clear : flag = false := by
      cases flag with
      | false => rfl
      | true => simp [flagged rfl] at out
    simp [Motion.right, Motion.unsync, Motion.rest, clear]
  | syncs _ e =>
    exact rest_right (by simp) (.inl rfl) (by simpa [e] using holds.fault)
  | rests _ turned held on =>
    exact rest_right (on.ne_none (holds.held_of_mayPresent turned)) (.inl rfl)
      (by simpa [turned.ne.2] using holds.fault)
  | ticks => simpa [Motion.right, countDown_eq_none] using holds

theorem motionRight_law : CarouselLaw .any fun _ => Carousel.motionRight where
  turns {c x y} turn holds := by
    obtain ⟨motion, face, phase⟩ := x.motionRight_iff.mp holds
    have flagged : x.flagged = true → x.motion.state = .presenting := fun e =>
      face.mp fun none => by simp [Carousel.flagged, none] at e
    rw [Carousel.motionRight_iff]
    cases turn with
    | face f carrier flag =>
      have same : Carousel.flagged { x with face := x.face.map f } = x.flagged := by
        simp [Carousel.flagged, Function.comp_def, flag]
      rw [same]
      exact ⟨motion, by simpa [Carousel.faceRight] using face, by simpa using phase⟩
    | motion m goes =>
      exact ⟨goes.right motion flagged, face.trans goes.presenting.symm, phase⟩
    | phase new only => exact ⟨motion, face, fun there => (only there).elim phase id⟩
    | presents _ turned held on k scope =>
      have fault : x.motion.fault = none := by
        have away : x.face = none := not_not.mp (mt face.mp turned.ne.1)
        simpa [turned.ne.2, Carousel.flagged, away] using motion.fault
      exact ⟨Motion.rest_right (on.ne_none (motion.held_of_mayPresent turned)) (.inr rfl)
        (by simp [fault, Carousel.flagged]), by simp [Carousel.faceRight, Motion.rest], fun _ => by simp⟩
    | faults _ away cause =>
      have away : x.face = none := away.elim (fun e => not_not.mp (mt face.mp e)) id
      exact ⟨by simp [Motion.right, Motion.rest], by simp [Carousel.faceRight, away, Motion.rest], phase⟩
    | blames _ presenting cause =>
      have there := face.mpr presenting
      refine ⟨?_, by simpa [Carousel.faceRight] using face, by simpa using phase⟩
      have flag : Carousel.flagged { x with motion := { x.motion with fault := some cause }, face := x.face.map fun p => { p with faultFlag := true } } = true := by
        obtain ⟨p, e⟩ := Option.ne_none_iff_exists'.mp there
        simp [Carousel.flagged, e]
      rw [flag]
      simp only [Motion.right, presenting] at motion ⊢
      simp_all
    | withdraws _ noFace =>
      exact ⟨by simp [Motion.right, Motion.rest, Carousel.flagged, noFace], by simp [Carousel.faceRight, noFace, Motion.rest], phase⟩
    | _ => exact ⟨motion, face, phase⟩
  moves {c x w time} _ chosen stands holds := by
    obtain ⟨motion, face, phase⟩ := x.motionRight_iff.mp holds
    have away : x.motion.state ≠ .presenting := by rcases stands with e | e <;> simp [e]
    have none : x.face = none := not_not.mp (mt face.mp away)
    refine (Carousel.motionRight_iff _).mpr ⟨?_, by simp [Carousel.faceRight, none, Motion.moved], phase⟩
    have held : x.motion.held ≠ Option.none := by
      obtain ⟨_, held, _⟩ := motion
      exact held (by rcases stands with e | e <;> simp [e])
    have rest : x.motion.stopTimer = Option.none ∧ x.motion.fault = Option.none := by
      obtain ⟨_, _, _, _, _, stop, fault⟩ := motion
      rcases stands with e | e <;> simpa [e, Carousel.flagged, none] using And.intro stop fault
    simp [Motion.right, Motion.moved, held, chosen, rest, Carousel.flagged, none]
  closes {c x p y} _ closes holds := by
    obtain ⟨motion, face, _⟩ := x.motionRight_iff.mp holds
    have presented := closes.presented
    have presenting : x.motion.state = .presenting := face.mp (by simp [presented])
    have fault := motion.fault
    have held : x.motion.held ≠ none := by
      obtain ⟨_, held, _⟩ := motion
      exact held (by simp [presenting])
    have flagged : x.flagged = p.faultFlag := by simp [Carousel.flagged, presented]
    obtain ⟨m, calls, leaves, _, rfl⟩ := closes.leaves
    refine (Carousel.motionRight_iff _).mpr ⟨?_, ?_, by simp [closes.noPhase]⟩
    · cases leaves with
      | idle clear =>
        exact Motion.rest_right held (.inl rfl) (by simpa [presenting, flagged, clear, Carousel.flagged, presented] using fault)
      | faulted set => simpa [Motion.right, Motion.rest, presenting, flagged, set, Carousel.flagged, presented] using fault
      | blamed => simp [Motion.right, Motion.rest]
    · cases leaves <;> simp [Carousel.faceRight, Motion.rest]
  restarts {c x} _ holds := by
    obtain ⟨motion, face, _⟩ := x.motionRight_iff.mp holds
    refine (Carousel.motionRight_iff _).mpr ?_
    simp only [Carousel.restarted, Carousel.rebalanced, Carousel.flagged, Carousel.faceRight]
    unfold Motion.restarted
    split
    · next out =>
      have out := (outOfService_iff _).mp out
      have none : x.face = none := not_not.mp (mt face.mp (by rcases out with e | e <;> simp [e]))
      rcases out with e | e <;> simp_all [Motion.right, Carousel.flagged]
    · simp [Motion.right, Motion.unsync, Motion.rest]
  powersOn := by
    simp [Carousel.motionRight, Carousel.atPowerOn, Motion.atPowerOn]

/-- Settles O57: each write of a motion record leaves in it what Table 6-1 says of its new state. -/
theorem everyStepKeepsTheMotionRecordsRight : Obligations.EveryStepKeepsTheMotionRecordsRight := by
  intro s t holds h
  refine step_keeps (law := State.motionRight) (fun h => h) (fun w holds c => motionRight_law.upd w (holds c))
    (fun w holds => motionRight_law.withdraws (fun motion phase face => ?_) w holds) holds h
  simp [Carousel.motionRight, motion, phase, face, Motion.withdrawn, Motion.rest]

/-! ## The face (R86) -/

theorem faceRight_law : CarouselLaw .any fun _ => Carousel.faceRight where
  turns {c x y} turn holds := by
    cases turn with
    | face f => simpa [Carousel.faceRight] using holds
    | motion m goes => exact holds.trans goes.presenting.symm
    | presents => simp [Carousel.faceRight, Motion.rest]
    | faults _ away =>
      have none : x.face = none := away.elim (fun e => not_not.mp (mt holds.mp e)) id
      simp [Carousel.faceRight, none, Motion.rest]
    | blames => simpa [Carousel.faceRight] using holds
    | withdraws _ none => simp [Carousel.faceRight, none, Motion.rest]
    | _ => exact holds
  moves {c x w time} _ _ stands holds := by
    have none : x.face = none := not_not.mp (mt holds.mp (by rcases stands with e | e <;> simp [e]))
    simp [Carousel.faceRight, none, Motion.moved]
  closes _ closes _ := by
    obtain ⟨m, calls, leaves, _, rfl⟩ := closes.leaves
    cases leaves <;> simp [Carousel.faceRight, Motion.rest]
  restarts {c x} _ _ := by
    have away : (x.motion.restarted x.guardLine).state ≠ .presenting := by
      unfold Motion.restarted
      split
      · next out => intro (e : x.motion.state = .presenting); simp [e, outOfService_iff] at out
      · simp [Motion.unsync, Motion.rest]
    simpa [Carousel.faceRight, Carousel.restarted, Carousel.rebalanced] using away
  powersOn := by simp [Carousel.faceRight, Carousel.atPowerOn, Motion.atPowerOn]

/-- Every task away from QUEUED lies on the carrier at the face. -/
def State.tasksAtFace (s : State) : Prop :=
  ∀ t x, s.task t = some x → x.state ≠ .queued →
    ∃ p, (s.carousel x.bay.carousel).face = some p ∧ p.carrier = x.bay.carrier

/-- The carrier presented stays through every write but the start of a presentation. -/
theorem Turn.face_carrier {k : Duty} {x y : Carousel} (h : Turn k x y) (right : k = .release ∨ x.faceRight)
    {p : Presentation} (presented : x.face = some p) : ∃ q, y.face = some q ∧ q.carrier = p.carrier := by
  cases h with
  | face f carrier => exact ⟨f p, by simp [presented], carrier p⟩
  | presents duty turned =>
    have none : x.face = none := right.elim (absurd · duty) fun r => not_not.mp (mt r.mp turned.ne.1)
    rw [none] at presented; cases presented
  | blames => exact ⟨{ p with faultFlag := true }, by simp [presented], rfl⟩
  | _ => exact ⟨p, presented, rfl⟩

/-- Tasks stay at the face where both the tasks and the carriers presented stay. -/
theorem tasksAtFace_of {s t : State} (holds : s.tasksAtFace) (tasks : t.tasks = s.tasks)
    (face : ∀ i x p, s.task i = some x → x.state ≠ .queued → (s.carousel x.bay.carousel).face = some p →
      ∃ q, (t.carousel x.bay.carousel).face = some q ∧ q.carrier = p.carrier) : t.tasksAtFace := by
  intro i x stands state
  rw [State.task, tasks] at stands
  obtain ⟨p, presented, e⟩ := holds i x stands state
  obtain ⟨q, presented', e'⟩ := face i x p stands state presented
  exact ⟨q, presented', e'.trans e⟩

theorem tasksAtFace_upd {k : Duty} {s t : State} (h : Upd k s t) (right : k = .release ∨ ∀ c, (s.carousel c).faceRight)
    (holds : s.tasksAtFace) : t.tasksAtFace := by
  cases h with
  | elsewhere carousels tasks =>
    exact tasksAtFace_of holds tasks fun _ _ p _ _ e => ⟨p, by rwa [carousel_of_carousels carousels], rfl⟩
  | turns turn tasks =>
    refine tasksAtFace_of holds tasks fun _ x p _ _ e => ?_
    rcases turn x.bay.carousel with same | turn
    · exact ⟨p, by rwa [same], rfl⟩
    · exact turn.face_carrier (right.imp id fun r => r _) e
  | task j y fits carousels tasks =>
    intro i x stands state
    rw [carousel_of_carousels carousels]
    rw [State.task, tasks, look_put] at stands
    split at stands
    · subst stands
      cases fits with
      | cut _ _ queued => exact absurd queued state
      | entombed z stands presented => exact holds j z stands (by simp [presented])
      | queued _ _ queued => exact absurd queued state
      | presented _ _ atFace => exact atFace
    · exact holds i x stands state
  | moves _ d w time _ _ carousels tasks =>
    refine tasksAtFace_of holds tasks fun _ x p _ _ e => ⟨p, ?_, rfl⟩
    rw [carousel_of_put carousels]
    split
    · next same => rw [same]; exact e
    · exact e
  | closes _ d p y closes cleared carousels tasks =>
    refine tasksAtFace_of holds tasks fun i x q stands state e => ⟨q, ?_, rfl⟩
    rw [carousel_of_put carousels, if_neg fun same => state (cleared i x stands same.symm)]
    exact e
  | globals _ _ _ carousels tasks =>
    exact tasksAtFace_of holds tasks fun _ _ p _ _ e => ⟨p, by rwa [carousel_of_carousels carousels], rfl⟩
  | restarts _ _ tasks => intro i x stands; rw [tasks] at stands; cases stands
  | powersOn _ _ tasks => intro i x stands; rw [tasks] at stands; cases stands

/-- A withdrawal leaves no task at the face it empties and every other task where it was. -/
theorem tasksAtFace_withdraws {s t : State} (w : Withdraws s t) (holds : s.tasksAtFace) : t.tasksAtFace := by
  obtain ⟨d, u, v, ⟨first, tasks, _⟩, work, ⟨cleared, _⟩, last, tasks', _⟩ := w.steps
  have started : u.tasksAtFace := tasksAtFace_of holds tasks fun _ x p _ _ e => by
    refine ⟨p, ?_, rfl⟩
    rw [carousel_of_put first]
    split
    · next same => rw [same]; exact e
    · exact e
  have worked : v.tasksAtFace :=
    chain_keeps (law := State.tasksAtFace) (fun w => tasksAtFace_upd w (.inl rfl)) work started
  refine tasksAtFace_of worked tasks' fun i x p stands state e => ⟨p, ?_, rfl⟩
  rw [carousel_of_put last, if_neg fun same => state (cleared i x stands same.symm)]
  exact e

/-- Settles O58: a task is shown only at the face, and a presentation ends or is withdrawn only with no task at it. -/
theorem everyStepKeepsPresentedTasksAtTheFace : Obligations.EveryStepKeepsPresentedTasksAtTheFace := by
  intro s t holds h
  refine step_keeps (law := State.presentedAtFace) (fun h => h)
    (fun w holds => ⟨fun c => faceRight_law.upd w (holds.1 c), tasksAtFace_upd w (.inr holds.1) holds.2⟩)
    (fun w holds => ⟨faceRight_law.withdraws (fun motion _ face => ?_) w holds.1, tasksAtFace_withdraws w holds.2⟩) holds h
  simp [Carousel.faceRight, motion, face, Motion.withdrawn, Motion.rest]

/-! ## The state after reset -/

theorem reset_carousel (c : CarouselId) : State.reset.carousel c = Carousel.atPowerOn c .closed := by
  simp [State.reset, State.poweredOn, State.carousel, look]

theorem reset_task (i : Ticket) : State.reset.task i = none := by
  simp [State.reset, State.poweredOn, State.task, look]

theorem reset_port (p : PortId) : State.reset.port p = Port.atReset false := by
  simp [State.reset, State.poweredOn, State.port, look]

/-- Settles O60, law by law: no carousel turns or presents, every queue is empty and every item has its default. -/
theorem resetMeetsTheLaws : Obligations.ResetMeetsTheLaws := by
  refine ⟨?_, fun c => ?_, fun c => ?_, fun p => ?_, ⟨globals_default_legal, fun c => ?_⟩, fun c => ?_, ⟨fun c => ?_, ?_⟩,
    fun c => ?_⟩
  · simp [State.permitsBounded, State.permitsHeld, State.motion, reset_carousel, Carousel.atPowerOn, Motion.atPowerOn,
      MotionState.holdsPermit]
  · rw [reset_carousel]; exact oneCall_law.powersOn rfl
  · rw [reset_carousel]; exact passes_law.powersOn (c := c) rfl
  · rw [reset_port]; exact Nat.zero_le _
  · rw [reset_carousel]; exact legal_law.powersOn rfl
  · rw [reset_carousel]; exact motionRight_law.powersOn (c := c) rfl
  · rw [State.motion, reset_carousel]; exact faceRight_law.powersOn (c := c) rfl
  · intro i x stands; rw [reset_task] at stands; cases stands
  · rw [reset_carousel]; exact overweightTrue_law.powersOn (c := c) rfl

/-! ## Commands and what follows them -/

/-- Settles O51: every command runs to a next state, and no write of it touches the waiting commands. -/
theorem everyCommandIsTaken : Obligations.EveryCommandIsTaken := by
  intro i s
  obtain ⟨t, e, run⟩ := exec_runs s i
  exact ⟨t, e, run.pending⟩

/-- Settles O50, by the definition of a step. -/
theorem stepRunsTheFrontCommand : Obligations.StepRunsTheFrontCommand := fun _ _ _ => ⟨rfl, rfl⟩

/-- What every write after an operation leaves of one carousel. -/
structure Carousel.Follows (x y : Carousel) : Prop where
  payload : ∀ k, (look y.carriers k).payload = (look x.carriers k).payload
  bays : ∀ k b,
    (look (look y.carriers k).bays b).lot = (look (look x.carriers k).bays b).lot
      ∧ (look (look y.carriers k).bays b).count = (look (look x.carriers k).bays b).count
      ∧ (look (look y.carriers k).bays b).incoming = (look (look x.carriers k).bays b).incoming
      ∧ (look (look y.carriers k).bays b).disputed = (look (look x.carriers k).bays b).disputed
  rest : y.balance = x.balance ∧ y.cfg = x.cfg
  motion : y.motion.held = x.motion.held ∧ y.motion.hold = x.motion.hold ∧ y.motion.guardLatch = x.motion.guardLatch

theorem Carousel.Follows.refl (x : Carousel) : x.Follows x :=
  ⟨fun _ => rfl, fun _ _ => ⟨rfl, rfl, rfl, rfl⟩, ⟨rfl, rfl⟩, ⟨rfl, rfl, rfl⟩⟩

theorem Carousel.Follows.trans {x y z : Carousel} (h : x.Follows y) (h' : y.Follows z) : x.Follows z where
  payload k := (h'.payload k).trans (h.payload k)
  bays k b := by
    obtain ⟨lot, count, incoming, disputed⟩ := h.bays k b
    obtain ⟨lot', count', incoming', disputed'⟩ := h'.bays k b
    exact ⟨lot'.trans lot, count'.trans count, incoming'.trans incoming, disputed'.trans disputed⟩
  rest := ⟨h'.rest.1.trans h.rest.1, h'.rest.2.trans h.rest.2⟩
  motion := by
    obtain ⟨held, hold, latch⟩ := h.motion
    obtain ⟨held', hold', latch'⟩ := h'.motion
    exact ⟨held'.trans held, hold'.trans hold, latch'.trans latch⟩

/-- Writes of motion, calls, face, phase and sweep alone. -/
theorem Carousel.Follows.of_motion {x y : Carousel} (carriers : y.carriers = x.carriers) (balance : y.balance = x.balance)
    (cfg : y.cfg = x.cfg) (held : y.motion.held = x.motion.held) (hold : y.motion.hold = x.motion.hold)
    (latch : y.motion.guardLatch = x.motion.guardLatch) : x.Follows y :=
  ⟨fun _ => by rw [carriers], fun _ _ => by simp [carriers], ⟨balance, cfg⟩, ⟨held, hold, latch⟩⟩

theorem HeldOn.follow {m : Motion} {held : Option Nat} (h : HeldOn .follow m held) : held = m.held :=
  h.elim id fun ⟨any, _⟩ => nomatch any

theorem Motion.Goes.follow {m m' : Motion} (h : m.Goes .follow m') :
    m'.held = m.held ∧ m'.hold = m.hold ∧ m'.guardLatch = m.guardLatch := by
  cases h with
  | drops => exact ⟨rfl, rfl, rfl⟩
  | waits => exact ⟨rfl, rfl, rfl⟩
  | rests _ _ _ on => exact ⟨on.follow, rfl, rfl⟩
  | flags any => cases any
  | stops any => cases any
  | suspends any => cases any
  | blames any => cases any
  | unsyncs any => cases any
  | syncs any => cases any
  | ticks any => cases any

/-- What follows an operation keeps the book, the balance, the configuration and what motion holds. -/
theorem follows_law (a : Carousel) : CarouselLaw .follow fun _ x => a.Follows x where
  turns turn holds := by
    refine holds.trans ?_
    cases turn with
    | carriers new kept =>
      refine ⟨fun k => (kept k).1 rfl, fun k b => ?_, ⟨rfl, rfl⟩, ⟨rfl, rfl, rfl⟩⟩
      obtain ⟨count, disputed⟩ := ((kept k).2 b).1 (by decide)
      obtain ⟨lot, incoming⟩ := ((kept k).2 b).2 rfl
      exact ⟨lot, count, incoming, disputed⟩
    | motion m goes =>
      obtain ⟨held, hold, latch⟩ := goes.follow
      exact .of_motion rfl rfl rfl held hold latch
    | presents _ _ _ on => exact .of_motion rfl rfl rfl on.follow rfl rfl
    | balance duty => exact absurd rfl duty
    | guardLine any => cases any
    | settings any => cases any
    | faults any => cases any
    | blames any => cases any
    | withdraws any => cases any
    | _ => exact .of_motion rfl rfl rfl rfl rfl rfl
  moves _ _ _ holds := holds.trans (.of_motion rfl rfl rfl rfl rfl rfl)
  closes _ closes holds := by
    obtain ⟨m, calls, leaves, _, rfl⟩ := closes.leaves
    exact holds.trans (by cases leaves <;> exact .of_motion rfl rfl rfl rfl rfl rfl)
  restarts any := nomatch any
  powersOn any := nomatch any

theorem Upd.follow_globals {s t : State} (h : Upd .follow s t) : t.globals = s.globals := by
  cases h with
  | globals any => cases any
  | restarts any => cases any
  | powersOn any => cases any
  | _ => assumption

/-- Settles O52: every write of what follows is one of `Duty.follow`. -/
theorem whatFollowsMovesNoTyre : Obligations.WhatFollowsMovesNoTyre := by
  intro s t
  have chain : Reaches .follow s t := (Reaches.refl .follow s).settle (by decide)
  have follows (c : CarouselId) : (s.carousel c).Follows (t.carousel c) :=
    (follows_law (s.carousel c)).chain chain.writes (.refl _)
  have globals : t.globals = s.globals :=
    chain_keeps (law := fun u => u.globals = s.globals) (fun w e => w.follow_globals.trans e) chain.writes rfl
  exact ⟨fun r => (follows r.carousel).bays r.carrier r.bay, fun c k => (follows c).payload k,
    fun c => ⟨(follows c).rest.1, (follows c).rest.2, (follows c).motion⟩, globals, chain.part (by decide), chain.pending⟩

end Sys2Proof.Machine

/-! What a request or an event leaves, where its block or its work is known, and the requests and events of the motion
unit (chapter 6). -/

namespace Sys2Proof.Machine

/-! ## Completed requests and events -/

section Requests

variable {s : State} {i : Instr} {h : Header} {code : RequestCode} {payload : List Byte} {r : Request}

/-- A request whose block does the work `y` and answers; what `y` made due follows. -/
theorem Admitted.completesThen_of_take_respond {outcome : ReplyCode} {body : List Byte} {posts : List (PortId × Notice)}
    {due : Due} {u : State} (y : State) (a : Admitted s i h code payload) (read : parseRequest code payload = some r)
    (may : s.stationMay h.port r = true)
    (answers : (s.accepted h.port).take ⟨h.port, code.byte, h.tag⟩ r
      = y.respond ⟨h.port, code.byte, h.tag⟩ outcome body)
    (madeDue : y.due = due) (inner : y.inner = u.inner)
    (ports : ∀ q, y.port q = postsTo posts q ((s.accepted h.port).port q)) :
    CompletesThen i s h code outcome body posts due u :=
  completesThen_of s y a.runs a.ready a.fits a.allowed read may answers madeDue inner
    fun q => by rw [ports, accepted_port]

/-- A request answered with nothing done. -/
theorem Admitted.completes_of_take_answer {outcome : ReplyCode} {body : List Byte} (a : Admitted s i h code payload)
    (read : parseRequest code payload = some r) (may : s.stationMay h.port r = true)
    (answers : (s.accepted h.port).take ⟨h.port, code.byte, h.tag⟩ r
      = (s.accepted h.port).respond ⟨h.port, code.byte, h.tag⟩ outcome body) :
    Completes i s h code outcome body [] s :=
  a.completes_of_take_respond _ read may answers (accepted_due ..) (by simp) fun _ => rfl

/-- The CAROUSEL notice of a carousel that goes to FAULTED. -/
def faultedNotice (s : State) (c : CarouselId) (cause : FaultCause) : PortId × Notice :=
  (stockPort, .carousel c .faulted (some cause) (s.motion c).hold (s.carousel c).balance.overweight
    (s.carousel c).balance.peak)

/-- The motion record of a carousel that goes to FAULTED. -/
def Motion.faulted (cause : FaultCause) (m : Motion) : Motion := { m.rest .faulted with fault := some cause }

theorem enterFaulted_postsTo (s : State) (c : CarouselId) (cause : FaultCause) (q : PortId) :
    (s.enterFaulted c cause).port q = postsTo [faultedNotice s c cause] q (s.port q) := by
  rw [enterFaulted_port, postsTo_cons, postsTo_nil, faultedNotice]

/-- A request whose block takes the carousel to FAULTED (R109). -/
theorem Admitted.completesThen_of_take_enterFaulted {c : CarouselId} {cause : FaultCause}
    (a : Admitted s i h code payload) (read : parseRequest code payload = some r) (may : s.stationMay h.port r = true)
    (answers : (s.accepted h.port).take ⟨h.port, code.byte, h.tag⟩ r
      = ((s.accepted h.port).enterFaulted c cause).respond ⟨h.port, code.byte, h.tag⟩ .done []) :
    CompletesThen i s h code .done [] [faultedNotice s c cause] { arbiter := (s.motion c).state.holdsPermit }
      (s.modMotion c (Motion.faulted cause)) := by
  refine a.completesThen_of_take_respond _ read may answers ?_ ?_ fun q => enterFaulted_postsTo _ c cause q
  · rw [enterFaulted_due, accepted_due, accepted_motion]; rfl
  · rw [enterFaulted_inner, accepted_inner, modMotion_inner]; rfl

/-- An event does its work, and what that made due follows. -/
theorem happensThen_of {f : State → State} {posts : List (PortId × Notice)} {due : Due} {u : State}
    (runs : exec i s = .next (s.operation f)) (awake : s.part ≠ .halted) (madeDue : (f s.begin).due = due)
    (inner : (f s.begin).inner = u.inner) (ports : ∀ q, (f s.begin).port q = postsTo posts q (s.port q)) :
    HappensThen i s posts due u :=
  ⟨f s.begin, by rw [runs, State.operation, if_neg awake], madeDue, inner, ports⟩

theorem HappensThen.happens {posts : List (PortId × Notice)} {u : State} (h : HappensThen i s posts {} u) :
    Happens i s posts u := by
  obtain ⟨x, runs, nothing, inner, ports⟩ := h
  exact ⟨x, by rw [runs, settle_of_nothing_due x nothing], inner, ports⟩

end Requests

/-! ## Lists of posts -/

theorem post_postsTo (s : State) (p : PortId) (n : Notice) (q : PortId) :
    (s.post p n).port q = postsTo [(p, n)] q (s.port q) := by
  rw [post_port, postsTo_cons, postsTo_nil]

theorem postsTo_append (a b : List (PortId × Notice)) (q : PortId) (x : Port) :
    postsTo (a ++ b) q x = postsTo b q (postsTo a q x) := by
  simp [postsTo, List.filter_append]

/-! ## HOLD (R114) -/

section Motion

variable {s : State} {c : CarouselId} {h : Header}

theorem holdOff_inner : (s.holdOff c).inner = s.inner.modMotion c fun m => { m with hold := false } := by
  unfold State.holdOff
  split
  · rfl
  · next clear =>
    have clear : (s.motion c).hold = false := by simpa using clear
    refine (modCarousel_id _ _ ?_).symm
    rw [inner_carousel]
    show { s.carousel c with motion := { s.motion c with hold := false } } = s.carousel c
    rw [← clear]; rfl

theorem holdOff_due : (s.holdOff c).due = { s.due with select := s.due.select || (s.motion c).hold } := by
  unfold State.holdOff
  split
  · next on => simp [State.dueSelect, on]
  · next clear => simp [clear]

theorem holdOff_port (q : PortId) : (s.holdOff c).port q = s.port q := by
  unfold State.holdOff; split <;> rfl

theorem admitted_hold (ready : s.readyFor h.port) (stock : h.port = stockPort) (v on : Byte) :
    Admitted s (.hold h v on) h .hold [v, on] :=
  ⟨rfl, ready, Nat.le_of_ble_eq_true rfl, by rw [stock]; rfl⟩

/-- Settles O2: HOLD on writes one motion record; HOLD off also makes a selection due where the flag stood. -/
theorem holdSetsTheFlagInEveryState : Obligations.HoldSetsTheFlagInEveryState := by
  intro h c s ready stock
  refine ⟨(admitted_hold ready stock _ _).completes_of_take_respond ((s.accepted h.port).holdOn c) (parse_hold c true) rfl
    rfl rfl rfl fun _ => rfl, (admitted_hold ready stock _ _).completesThen_of_take_respond
      ((s.accepted h.port).holdOff c) (parse_hold c false) rfl rfl ?_ ?_ fun q => ?_⟩
  · rw [holdOff_due, accepted_due, accepted_motion, Bool.false_or]
  · rw [holdOff_inner, accepted_inner, modMotion_inner]
  · rw [holdOff_port, postsTo_nil]

/-! ## Drive reports (R99, R103, R107, R111) -/

theorem admitted_position (ready : s.readyFor h.port) (drive : h.port = drivePort c) (v : Byte) :
    Admitted s (.position h v) h .position [v] :=
  ⟨rfl, ready, Nat.le_of_ble_eq_true rfl, by rw [drive]; exact isDrivePort_drivePort c⟩

theorem admitted_arrived (ready : s.readyFor h.port) (drive : h.port = drivePort c) (v : Byte) :
    Admitted s (.arrived h v) h .arrived [v] :=
  ⟨rfl, ready, Nat.le_of_ble_eq_true rfl, by rw [drive]; exact isDrivePort_drivePort c⟩

theorem admitted_stopped (ready : s.readyFor h.port) (drive : h.port = drivePort c) (v : Byte) :
    Admitted s (.stopped h v) h .stopped [v] :=
  ⟨rfl, ready, Nat.le_of_ble_eq_true rfl, by rw [drive]; exact isDrivePort_drivePort c⟩

theorem admitted_fault (ready : s.readyFor h.port) (drive : h.port = drivePort c) (v : Byte) :
    Admitted s (.fault h v) h .fault [v] :=
  ⟨rfl, ready, Nat.le_of_ble_eq_true rfl, by rw [drive]; exact isDrivePort_drivePort c⟩

theorem driveCarousel_of (drive : h.port = drivePort c) : driveCarousel h.port = c := by
  rw [drive, driveCarousel_drivePort]

variable {offset : Nat} {rt : ReplyTo}

theorem takePosition_outside (outside : (s.carousel c).cfg.n ≤ offset) :
    s.takePosition rt c offset = s.refuse rt .badRange := if_pos (by omega)

theorem takePosition_out (inside : offset < (s.carousel c).cfg.n)
    (out : (s.motion c).state ∈ [.offline, .faulted, .withdrawn]) :
    s.takePosition rt c offset = s.refuse rt .wrongState := by
  simp only [List.mem_cons, List.not_mem_nil, or_false] at out
  rcases out with e | e | e <;> simp [State.takePosition, inside, e]

theorem takePosition_unsynced (inside : offset < (s.carousel c).cfg.n) (unsynced : (s.motion c).state = .unsynced) :
    s.takePosition rt c offset = (s.synchronise c offset).respond rt .done [] := by
  simp [State.takePosition, inside, unsynced]

theorem takePosition_turning (inside : offset < (s.carousel c).cfg.n)
    (turning : (s.motion c).state ∈ [.moving, .stopping]) : s.takePosition rt c offset = s.respond rt .done [] := by
  simp only [List.mem_cons, List.not_mem_nil, or_false] at turning
  rcases turning with e | e <;> simp [State.takePosition, inside, e]

theorem takePosition_equal (inside : offset < (s.carousel c).cfg.n)
    (rests : (s.motion c).state ∈ [.idle, .waitPermit, .suspended, .presenting])
    (held : (s.motion c).held = some offset) : s.takePosition rt c offset = s.respond rt .done [] := by
  simp only [List.mem_cons, List.not_mem_nil, or_false] at rests
  rcases rests with e | e | e | e <;> simp [State.takePosition, inside, e, held]

theorem takePosition_other (inside : offset < (s.carousel c).cfg.n)
    (rests : (s.motion c).state ∈ [.idle, .waitPermit, .suspended, .presenting])
    (held : (s.motion c).held ≠ some offset) : s.takePosition rt c offset = (s.misposition c).respond rt .done [] := by
  simp only [List.mem_cons, List.not_mem_nil, or_false] at rests
  rcases rests with e | e | e | e <;> simp [State.takePosition, inside, e, held]

theorem misposition_away (away : (s.carousel c).face = none) : s.misposition c = s.enterFaulted c .misposition := by
  simp [State.misposition, away]

/-- Settles O3, motion state by motion state; each way POSITION is taken has its own equation. -/
theorem positionIsTakenByMotionState : Obligations.PositionIsTakenByMotionState := by
  intro h c offset s ready drive bound x m i
  have admitted := admitted_position ready drive (byteOf offset)
  have read := parse_position offset bound
  have sender := driveCarousel_of drive
  refine ⟨fun outside _ => ?range, fun inside out => ?out, fun inside unsynced => ?unsynced, fun inside turning => ?turning,
    fun inside rests held => ?equal, fun inside rests away held => ?other⟩
  case range =>
    refine admitted.completes_of_take_refuse read rfl ?_
    simp only [State.take, sender]
    exact takePosition_outside (s := s.accepted h.port) outside
  case out =>
    refine admitted.completes_of_take_refuse read rfl ?_
    simp only [State.take, sender]
    exact takePosition_out (s := s.accepted h.port) inside out
  case unsynced =>
    refine admitted.completesThen_of_take_respond ((s.accepted h.port).synchronise c offset) read rfl ?_ rfl rfl fun q => ?_
    · simp only [State.take, sender]
      exact takePosition_unsynced (s := s.accepted h.port) inside unsynced
    · simp only [State.synchronise, dueSelect_port, duePass_port, postCarousel_eq, post_port, modMotion_port, postsTo_cons,
        postsTo_nil, carouselNotice, modMotion_carousel_self]
      rfl
  case turning =>
    refine admitted.completes_of_take_answer read rfl ?_
    simp only [State.take, sender]
    exact takePosition_turning (s := s.accepted h.port) inside turning
  case equal =>
    refine admitted.completes_of_take_answer read rfl ?_
    simp only [State.take, sender]
    exact takePosition_equal (s := s.accepted h.port) inside rests held
  case other =>
    have rests' : m.state ∈ [.idle, .waitPermit, .suspended, .presenting] := by
      simp only [List.mem_cons, List.not_mem_nil, or_false] at rests ⊢; tauto
    have faulted := admitted.completesThen_of_take_enterFaulted (c := c) (cause := .misposition) read rfl (by
      simp only [State.take, sender]
      rw [takePosition_other (s := s.accepted h.port) inside rests' held, misposition_away (s := s.accepted h.port) away])
    have permit : (s.motion c).state.holdsPermit = decide (m.state = .suspended) := by
      simp only [List.mem_cons, List.not_mem_nil, or_false] at rests
      rcases rests with e | e | e <;> simp [show (s.motion c).state = _ from e, e, MotionState.holdsPermit]
    rwa [permit] at faulted

/-- Settles O4, request by request and motion state by motion state. -/
theorem stoppedAndArrivedEndTheTurning : Obligations.StoppedAndArrivedEndTheTurning := by
  refine ⟨fun h c offset s ready drive inside bound => ?stopped, fun h c offset s ready drive inside bound => ?arrived⟩
  case stopped =>
    have admitted := admitted_stopped ready drive (byteOf offset)
    have sender := driveCarousel_of drive
    have inside' : offset < ((s.accepted h.port).carousel c).cfg.n := inside
    intro i
    by_cases stopping : (s.motion c).state = .stopping
    · rw [if_pos stopping]
      refine admitted.completes_of_take_respond ((s.accepted h.port).modMotion c fun m =>
        { m with state := .suspended, held := some offset, stopTimer := none }) (parse_stopped offset bound) rfl ?_ rfl rfl
        fun _ => rfl
      simp [State.take, sender, State.takeStopped, inside, stopping]
    · rw [if_neg stopping]
      refine admitted.completes_of_take_refuse (parse_stopped offset bound) rfl ?_
      simp [State.take, sender, State.takeStopped, inside, stopping]
  case arrived =>
    have admitted := admitted_arrived ready drive (byteOf offset)
    have sender := driveCarousel_of drive
    have read := parse_arrived offset bound
    intro x m i
    have takes : m.state ∈ [.moving, .stopping] →
        (s.accepted h.port).take ⟨h.port, RequestCode.arrived.byte, h.tag⟩ (.arrived offset)
          = ((s.accepted h.port).arrive c offset).respond ⟨h.port, RequestCode.arrived.byte, h.tag⟩ .done [] := by
      intro turning
      simp only [List.mem_cons, List.not_mem_nil, or_false] at turning
      rcases turning with e | e <;>
        simp [State.take, sender, State.takeArrived, inside, show (s.motion c).state = _ from e]
    refine ⟨fun still => ?_, fun k turning chosen => ⟨fun there => ?_, fun elsewhere => ?_⟩⟩
    · refine admitted.completes_of_take_refuse read rfl ?_
      have e : (s.motion c).state = m.state := rfl
      cases state : m.state <;> simp_all [State.take, State.takeArrived]
    · rw [admitted.exec_eq_take read rfl, takes turning]
      have e : (s.motion c).chosen = some k := chosen
      simp [State.arrive, e, there, State.arriveAt]
    · have e : (s.motion c).chosen = some k := chosen
      have faulted := admitted.completesThen_of_take_enterFaulted (c := c) (cause := .misposition) read rfl (by
        rw [takes turning]; simp [State.arrive, e, elsewhere])
      have permit : (s.motion c).state.holdsPermit = true := by
        rw [holdsPermit_iff]
        simp only [List.mem_cons, List.not_mem_nil, or_false] at turning
        exact turning.imp id .inl
      rwa [permit] at faulted

/-- Settles O5, motion state by motion state. -/
theorem faultIsTakenByMotionState : Obligations.FaultIsTakenByMotionState := by
  intro h c cause s ready drive positive bound x m i
  have admitted := admitted_fault ready drive (byteOf cause)
  have sender := driveCarousel_of drive
  have read := parse_fault cause ⟨positive, bound⟩
  have same : (s.motion c).state = m.state := rfl
  by_cases out : m.state = .offline ∨ m.state = .withdrawn
  · rw [if_pos out]
    refine admitted.completes_of_take_refuse read rfl ?_
    rcases out with e | e <;> simp [State.take, sender, State.takeFault, same, e]
  rw [if_neg out]
  by_cases presenting : m.state = .presenting
  · rw [if_pos presenting]
    refine admitted.completes_of_take_respond ((s.accepted h.port).flagFault c cause) read rfl ?_ rfl ?_ fun _ => rfl
    · simp [State.take, sender, State.takeFault, same, presenting]
    · rw [State.flagFault, State.modFace, State.modMotion, modCarousel_modCarousel]; rfl
  rw [if_neg presenting]
  by_cases faulted : m.state = .faulted
  · rw [if_pos faulted]
    refine admitted.completes_of_take_respond ((s.accepted h.port).modMotion c fun y => { y with fault := some (.drive cause) })
      read rfl ?_ rfl rfl fun _ => rfl
    simp [State.take, sender, State.takeFault, same, faulted]
  · rw [if_neg faulted]
    have done := admitted.completesThen_of_take_enterFaulted (c := c) (cause := .drive cause) read rfl (by
      cases state : m.state <;> simp_all [State.take, State.takeFault])
    have permit : (s.motion c).state.holdsPermit
        = decide (m.state = .moving ∨ m.state = .stopping ∨ m.state = .suspended) := by
      rw [Bool.eq_iff_iff, decide_eq_true_iff]; exact holdsPermit_iff _
    rwa [permit] at done

/-! ## Guards and timers (R104 to R107) -/

/-- What follows an operation starts no stop timer. -/
theorem stopTimer_law : CarouselLaw .follow fun _ x => x.motion.stopTimer ≠ some 0 where
  turns turn holds := by
    cases turn with
    | motion m goes =>
      cases goes with
      | drops => exact holds
      | waits => exact holds
      | rests => exact nofun
      | flags any => cases any
      | stops any => cases any
      | suspends any => cases any
      | blames any => cases any
      | unsyncs any => cases any
      | syncs any => cases any
      | ticks any => cases any
    | presents => exact nofun
    | faults any => cases any
    | blames any => cases any
    | withdraws any => cases any
    | _ => exact holds
  moves _ _ _ holds := holds
  closes _ closes holds := by
    obtain ⟨m, calls, leaves, _, rfl⟩ := closes.leaves
    cases leaves <;> exact nofun
  restarts any := nomatch any
  powersOn any := nomatch any

theorem settle_stopRunOut (timer : (s.motion c).stopTimer ≠ some 0) : s.settle.stopRunOut c = false :=
  decide_eq_false (stopTimer_law.chain ((Reaches.refl .follow s).settle (by decide)).writes (c := c) timer)

/-- The state in which a guard event is worked: nothing due, the line at its new level. -/
def State.guardRead (s : State) (c : CarouselId) (level : GuardLevel) : State := (s.setGuardLine c level).begin

theorem guardRead_motion (level : GuardLevel) (d : CarouselId) : (s.guardRead c level).motion d = s.motion d := by
  show ((s.setGuardLine c level).carousel d).motion = (s.carousel d).motion
  rw [State.setGuardLine, modCarousel_carousel]
  split
  · next e => subst e; rfl
  · rfl

/-- A guard change that loads no stop timer with 0: the guard event is all that happens (R105, R106). -/
theorem exec_guardChange {level : GuardLevel} (awake : s.part ≠ .halted)
    (timer : (((s.guardRead c level).guardEvent c level).motion c).stopTimer ≠ some 0) :
    exec (.guardChange c level) s = .next ((s.guardRead c level).guardEvent c level).settle := by
  have awake' : (s.setGuardLine c level).part ≠ .halted := awake
  show Host.Outcome.next (s.changeGuard c level) = _
  simp only [State.changeGuard, State.operation, if_neg awake', ← State.guardRead.eq_1, settle_stopRunOut timer]
  rfl

theorem guardEvent_same {level : GuardLevel} (same : level = (s.motion c).guardLatch) : s.guardEvent c level = s :=
  if_pos same

theorem guardEvent_closed (opened : (s.motion c).guardLatch = .opened) :
    s.guardEvent c .closed = (s.modMotion c fun m => { m with guardLatch := .closed }).dueArbiter :=
  if_neg (by rw [opened]; decide)

/-- An opening away from MOVING is latched (R106). -/
theorem guardEvent_latched (closed : (s.motion c).guardLatch = .closed) (still : (s.motion c).state ≠ .moving) :
    s.guardEvent c .opened = s.modMotion c fun m => { m with guardLatch := .opened } := by
  rw [State.guardEvent, if_neg (by rw [closed]; decide)]
  simp [State.guardEffect, still]

/-- An opening in MOVING is latched and stops the move (R106). -/
theorem guardEvent_stops (closed : (s.motion c).guardLatch = .closed) (moving : (s.motion c).state = .moving) :
    s.guardEvent c .opened = (s.modMotion c fun m => { m with guardLatch := .opened }).guardStop c := by
  rw [State.guardEvent, if_neg (by rw [closed]; decide)]
  simp [State.guardEffect, moving]

theorem guardStop_port (q : PortId) : (s.guardStop c).port q = postsTo [(drivePort c, .stop)] q (s.port q) := by
  rw [State.guardStop, modMotion_port, post_postsTo]

/-- The carousel whose guard opened in MOVING, with the stop timer loaded (R106). -/
def Carousel.guardStopped (base : Nat) (y : Carousel) : Carousel :=
  { y with guardLine := .opened, motion := { y.motion with guardLatch := .opened, state := .stopping, moveTimer := none,
                                                           stopTimer := some base } }

theorem guardStopped_inner :
    (((s.guardRead c .opened).modMotion c fun m => { m with guardLatch := .opened }).guardStop c).inner
      = (s.modCarousel c (Carousel.guardStopped
          (look s.globals.profiles (s.carousel c).cfg.profile).baseTime)).inner := by
  have time : ((s.guardRead c .opened).modMotion c fun m => { m with guardLatch := .opened }).stopTimeout c
      = (look s.globals.profiles (s.carousel c).cfg.profile).baseTime := by
    simp only [State.stopTimeout, State.profileOf, modMotion_carousel_self]
    show (look s.globals.profiles ((s.setGuardLine c .opened).carousel c).cfg.profile).baseTime = _
    rw [State.setGuardLine, modCarousel_carousel_self]
  rw [State.guardStop, time, State.modMotion, State.modMotion, modCarousel_inner, post_inner, ← modCarousel_inner,
    modCarousel_modCarousel]
  show ((s.setGuardLine c .opened).modCarousel c _).inner = _
  rw [State.setGuardLine, modCarousel_modCarousel]
  rfl

theorem expireStop_runs (stopping : (s.motion c).state = .stopping) (running : (s.motion c).stopTimer ≠ none) :
    s.expireStop c = s.enterFaulted c .timeout :=
  if_pos ⟨stopping, Option.isSome_iff_ne_none.mpr running⟩

/-- Settles O7: a guard event has one equation for each way it goes, an expiry one. -/
theorem guardsAndTimersStopAMove : Obligations.GuardsAndTimersStopAMove := by
  refine ⟨fun c s awake timer => ?guard, fun c left s awake => ?timers⟩
  case guard =>
    intro x base
    have motion (level : GuardLevel) : (s.guardRead c level).motion c = s.motion c := guardRead_motion level c
    refine ⟨fun level same => ?same, fun opened => ?closing, fun closed still => ?latched, fun closed moving there => ?stops,
      fun closed moving zero => ?faults⟩
    case same =>
      have event : (s.guardRead c level).guardEvent c level = s.guardRead c level :=
        guardEvent_same (by rw [motion]; exact same)
      refine ⟨s.guardRead c level, ?_, rfl, fun _ => rfl⟩
      rw [exec_guardChange awake (by rw [event, motion]; exact timer), event, settle_of_nothing_due _ rfl]
    case closing =>
      have event := guardEvent_closed (s := s.guardRead c .closed) (c := c) (by rw [motion]; exact opened)
      refine ⟨_, exec_guardChange awake ?_, ?_, ?_, fun q => ?_⟩
      · rw [event]; simpa [motion] using timer
      · rw [event]; rfl
      · rw [event, dueArbiter_inner, State.modMotion, State.guardRead, modCarousel_inner, begin_inner, State.setGuardLine,
          ← modCarousel_inner, modCarousel_modCarousel]; rfl
      · rw [event]; rfl
    case latched =>
      have event := guardEvent_latched (s := s.guardRead c .opened) (c := c) (by rw [motion]; exact closed)
        (by rw [motion]; exact still)
      refine HappensThen.happens ⟨_, exec_guardChange awake ?_, ?_, ?_, fun q => ?_⟩
      · rw [event]; simpa [motion] using timer
      · rw [event]; rfl
      · rw [event, State.modMotion, State.guardRead, modCarousel_inner, begin_inner, State.setGuardLine,
          ← modCarousel_inner, modCarousel_modCarousel]; rfl
      · rw [event]; rfl
    case stops =>
      have event := guardEvent_stops (s := s.guardRead c .opened) (c := c) (by rw [motion]; exact closed)
        (by rw [motion]; exact moving)
      have inner := guardStopped_inner (s := s) (c := c)
      refine HappensThen.happens ⟨_, exec_guardChange awake ?_, ?_, ?_, fun q => ?_⟩
      · rw [event, ← inner_motion, inner]
        simpa [State.motion, Carousel.guardStopped] using there.ne'
      · rw [event]; rfl
      · rw [event, inner]; rfl
      · rw [event, guardStop_port]; rfl
    case faults =>
      have event := guardEvent_stops (s := s.guardRead c .opened) (c := c) (by rw [motion]; exact closed)
        (by rw [motion]; exact moving)
      have inner := guardStopped_inner (s := s) (c := c)
      set v := ((s.guardRead c .opened).modMotion c fun m => { m with guardLatch := .opened }).guardStop c with v_def
      have stopped : v.carousel c = (s.carousel c).guardStopped 0 := by
        rw [← inner_carousel, inner, inner_carousel, modCarousel_carousel_self, 
          show (look s.globals.profiles (s.carousel c).cfg.profile).baseTime = 0 from zero]
      have runs : exec (.guardChange c .opened) s = .next (v.operation fun x => x.expireStop c) := by
        have awake' : (s.setGuardLine c .opened).part ≠ .halted := awake
        have ranOut : v.stopRunOut c = true := by
          simp [State.stopRunOut, State.motion, stopped, Carousel.guardStopped]
        show Host.Outcome.next (s.changeGuard c .opened) = _
        simp only [State.changeGuard, State.operation, if_neg awake', ← State.guardRead.eq_1, event,
          settle_of_nothing_due v rfl, ranOut, if_true]
      have expires : v.begin.expireStop c = v.begin.enterFaulted c .timeout := by
        refine expireStop_runs ?_ ?_
        · show (v.carousel c).motion.state = _
          rw [stopped]; rfl
        · show (v.carousel c).motion.stopTimer ≠ _
          rw [stopped]; exact nofun
      refine ⟨v.begin.expireStop c, ?_, ?_, ?_, fun q => ?_⟩
      · rw [runs, State.operation, if_neg (show v.part ≠ .halted from awake)]
      · rw [expires, enterFaulted_due]
        show ({ arbiter := (v.carousel c).motion.state.holdsPermit } : Due) = _
        rw [stopped]; rfl
      · rw [expires, enterFaulted_inner, begin_inner, inner, State.modMotion, ← modCarousel_inner, modCarousel_modCarousel]
        rfl
      · rw [expires, enterFaulted_postsTo, faultedNotice]
        show postsTo [(stockPort, .carousel c .faulted _ (v.carousel c).motion.hold (v.carousel c).balance.overweight
          (v.carousel c).balance.peak)] q (v.port q) = _
        rw [stopped, v_def, guardStop_port, ← postsTo_append]
        rfl
  case timers =>
    intro x notice u
    refine ⟨fun moving running => ?_, fun stopping running => ?_⟩
    · have expires : s.begin.expireMove c = (s.begin.post (drivePort c) .stop).enterFaulted c .timeout :=
        if_pos ⟨moving, by rw [show (s.begin.motion c).moveTimer = some left from running]; rfl⟩
      refine happensThen_of rfl awake ?_ ?_ fun q => ?_
      · rw [expires, enterFaulted_due, post_due, post_motion, show (s.begin.motion c).state = .moving from moving]; rfl
      · rw [expires, enterFaulted_inner, post_inner]; rfl
      · rw [expires, enterFaulted_postsTo, post_postsTo, ← postsTo_append]; rfl
    · have expires : s.begin.expireStop c = s.begin.enterFaulted c .timeout :=
        expireStop_runs stopping (by rw [show (s.begin.motion c).stopTimer = some left from running]; simp)
      refine happensThen_of rfl awake ?_ ?_ fun q => ?_
      · rw [expires, enterFaulted_due, show (s.begin.motion c).state = .stopping from stopping]; rfl
      · rw [expires, enterFaulted_inner]; rfl
      · rw [expires, enterFaulted_postsTo]; rfl

end Motion

end Sys2Proof.Machine

/-! Arrivals, strays and the opening and closing of orders (chapters 4 and 7). -/

namespace Sys2Proof.Machine

section Lanes

variable {s : State} {l : LaneId} {h : Header} {rt : ReplyTo}

/-! ## LANE_STATE notices and the test of a lane (R121, R123) -/

theorem postLaneStateBoth_port (q : PortId) :
    (s.postLaneStateBoth l).port q
      = postsTo (laneStateBoth l (s.lane l).state (s.lane l).ref (s.lane l).strays) q (s.port q) := by
  rw [State.postLaneStateBoth, State.postLaneState, post_postsTo, State.postLaneState, post_postsTo, ← postsTo_append]
  rfl

/-- A lane goes to a state, with LANE_STATE to L11 and to L0. -/
def State.announce (s : State) (l : LaneId) (state : LaneState) : State :=
  (s.modLane l fun y => { y with state := state }).postLaneStateBoth l

theorem announce_inner (state : LaneState) :
    (s.announce l state).inner = (s.modLane l fun y => { y with state := state }).inner := rfl

theorem announce_due (state : LaneState) : (s.announce l state).due = s.due := rfl

theorem announce_lane (state : LaneState) : (s.announce l state).lane l = { s.lane l with state := state } := by
  simp [State.announce, State.postLaneStateBoth, State.postLaneState]

theorem announce_port (state : LaneState) (q : PortId) :
    (s.announce l state).port q = postsTo (laneStateBoth l state (s.lane l).ref (s.lane l).strays) q (s.port q) := by
  rw [State.announce, postLaneStateBoth_port, modLane_lane_self, modLane_port]; rfl

theorem Lane.whole_iff (x : Lane) : x.whole = true ↔ (∀ y ∈ x.lines, y.tyres.arrived = y.quantity) ∧ x.strays = 0 := by
  simp [Lane.whole]

theorem testComplete_of_full (filling : (s.lane l).state = .filling) (whole : (s.lane l).whole = true) :
    s.testComplete l = s.announce l .complete := if_pos ⟨filling, whole⟩

theorem testComplete_of_not_full (short : ¬ ((s.lane l).state = .filling ∧ (s.lane l).whole = true)) :
    s.testComplete l = s := if_neg short

theorem testDrained_of_drained (cancelling : (s.lane l).state = .cancelling)
    (drained : ∀ y ∈ (s.lane l).lines, y.tyres.transit = 0) : s.testDrained l = s.announce l .cancelled :=
  if_pos ⟨cancelling, by simpa using drained⟩

theorem testDrained_of_not_drained
    (left : ¬ ((s.lane l).state = .cancelling ∧ ∀ y ∈ (s.lane l).lines, y.tyres.transit = 0)) : s.testDrained l = s :=
  if_neg (by simpa using left)

/-! ## ARRIVAL (R119, R120, R124) -/

/-- The lane after a matched arrival, before its test. -/
def Lane.matched (m : Match) (x : Lane) : Lane :=
  x.modLines fun ls => ls.modify m.line (Line.modTyres m.set Counters.arrive)

@[simp] theorem Lane.modLines_lines (f : List Line → List Line) (x : Lane) (there : x.order ≠ none) :
    (x.modLines f).lines = f x.lines := by
  obtain ⟨o, e⟩ := Option.ne_none_iff_exists'.mp there
  simp [Lane.lines, Lane.modLines, e]

theorem Lane.modLines_ref (f : List Line → List Line) (x : Lane) : (x.modLines f).ref = x.ref := by
  simp [Lane.ref, Lane.modLines, Function.comp_def]

theorem order_of_findMatch {a w i : Nat} {x : Lane} {m : Match} (found : findMatch a w i x.lines = some m) :
    x.order ≠ none := by
  intro none
  simp [Lane.lines, none, findMatch] at found

theorem takeMatch_eq (m : Match) :
    s.takeMatch l m = ((s.modLane l (Lane.matched m)).testComplete l).testDrained l := rfl

/-- A FILLING lane made whole goes to COMPLETE (R121). -/
theorem takeMatch_full {m : Match} (filling : (s.lane l).state = .filling)
    (whole : ((s.lane l).matched m).whole = true) :
    s.takeMatch l m = (s.modLane l (Lane.matched m)).announce l .complete := by
  rw [takeMatch_eq, testComplete_of_full (by rw [modLane_lane_self]; exact filling) (by rw [modLane_lane_self]; exact whole),
    testDrained_of_not_drained (by simp [announce_lane])]

/-- A CANCELLING lane with nothing left in transit goes to CANCELLED (R123). -/
theorem takeMatch_drained {m : Match} (cancelling : (s.lane l).state = .cancelling)
    (drained : ∀ y ∈ ((s.lane l).matched m).lines, y.tyres.transit = 0) :
    s.takeMatch l m = (s.modLane l (Lane.matched m)).announce l .cancelled := by
  have state : ((s.modLane l (Lane.matched m)).lane l).state = .cancelling := by rw [modLane_lane_self]; exact cancelling
  rw [takeMatch_eq, testComplete_of_not_full (by rw [state]; simp),
    testDrained_of_drained state (by rw [modLane_lane_self]; exact drained)]

theorem takeMatch_short {m : Match} (notFull : ¬ ((s.lane l).state = .filling ∧ ((s.lane l).matched m).whole = true))
    (notDrained : ¬ ((s.lane l).state = .cancelling ∧ ∀ y ∈ ((s.lane l).matched m).lines, y.tyres.transit = 0)) :
    s.takeMatch l m = s.modLane l (Lane.matched m) := by
  rw [takeMatch_eq, testComplete_of_not_full (by rw [modLane_lane_self]; exact notFull),
    testDrained_of_not_drained (by rw [modLane_lane_self]; exact notDrained)]

theorem admitted_arrival (ready : s.readyFor h.port) (lane : h.port = lanePort) (v : Byte) (article : BitVec 24)
    (week : BitVec 16) : Admitted s (.arrival h v article week) h .arrival ([v] ++ field 3 article ++ field 2 week) :=
  ⟨rfl, ready, Nat.le_of_ble_eq_true rfl, by rw [lane]; rfl⟩

theorem announced_inner {f : Lane → Lane} (state : LaneState) (p : PortId) :
    (((s.accepted p).modLane l f).announce l state).inner
      = (s.modLane l fun y => { f y with state := state }).inner := by
  rw [announce_inner, modLane_modLane]; rfl

/-- Settles O8: the three ways the lane's test goes after the match. -/
theorem aMatchedArrivalMovesOneTyre : Obligations.AMatchedArrivalMovesOneTyre := by
  intro h l article week m s ready lane a1 a2 w1 w2 found x lines full drained i body after
  have admitted := admitted_arrival ready lane (byteOf l.val) article week
  have read := parse_arrival l article week ⟨a1, a2⟩ ⟨w1, w2⟩
  have takes : (s.accepted h.port).take ⟨h.port, RequestCode.arrival.byte, h.tag⟩ (.arrival l article.toNat week.toNat)
      = ((s.accepted h.port).takeMatch l m).respond ⟨h.port, RequestCode.arrival.byte, h.tag⟩ .done body := by
    rw [State.take, State.takeArrival, accepted_lane, found]
  have there := order_of_findMatch found
  have newLines : ((s.lane l).matched m).lines = lines := Lane.modLines_lines _ _ there
  have whole : ((s.lane l).matched m).whole = true ↔ x.strays = 0 ∧ ∀ y ∈ lines, y.tyres.arrived = y.quantity := by
    rw [Lane.whole_iff, newLines, and_comm]; rfl
  have afterwards (state : LaneState) : (s.modLane l fun y => { y.matched m with state := state }) = after state := by
    obtain ⟨o, e⟩ := Option.ne_none_iff_exists'.mp there
    refine modLane_congr s l ?_
    simp [Lane.matched, Lane.modLines, e, lines, x, Lane.lines]
    rfl
  refine ⟨fun ⟨filling, strays, arrived⟩ => ?_, fun ⟨cancelling, empty⟩ => ?_, fun notFull notDrained => ?_⟩
  · rw [takeMatch_full (s := s.accepted h.port) filling (whole.mpr ⟨strays, arrived⟩)] at takes
    refine admitted.completes_of_take_respond _ read rfl takes rfl (by rw [announced_inner, afterwards]) fun q => ?_
    rw [announce_port, modLane_lane_self, modLane_port, accepted_lane, Lane.matched, Lane.modLines_ref,
      show ((s.lane l).modLines _).strays = 0 from strays]
  · rw [takeMatch_drained (s := s.accepted h.port) cancelling (by rw [accepted_lane, newLines]; exact empty)] at takes
    refine admitted.completes_of_take_respond _ read rfl takes rfl (by rw [announced_inner, afterwards]) fun q => ?_
    rw [announce_port, modLane_lane_self, modLane_port, accepted_lane, Lane.matched, Lane.modLines_ref]
    rfl
  · rw [takeMatch_short (s := s.accepted h.port) (fun e => notFull ⟨e.1, whole.mp e.2⟩)
      (fun e => notDrained ⟨e.1, by rw [← newLines]; exact e.2⟩)] at takes
    refine admitted.completes_of_take_respond _ read rfl takes rfl ?_ fun _ => rfl
    rw [← afterwards, modLane_inner, modLane_inner, accepted_inner]
    exact modLane_congr _ l rfl

theorem takeStray_of_complete {a w : Nat} (complete : (s.lane l).state = .complete) :
    s.takeStray l a w
      = (((s.modLane l fun y => { y with strays := min 15 ((s.lane l).strays + 1), state := .filling }).post lanePort
          (.stray l a w (min 15 ((s.lane l).strays + 1)) .filling)).post stockPort
          (.stray l a w (min 15 ((s.lane l).strays + 1)) .filling)).postLaneStateBoth l := by
  simp [State.takeStray, complete, Config.strayCap]

theorem takeStray_of_other {a w : Nat} (other : (s.lane l).state ≠ .complete) :
    s.takeStray l a w
      = ((s.modLane l fun y => { y with strays := min 15 ((s.lane l).strays + 1), state := (s.lane l).state }).post lanePort
          (.stray l a w (min 15 ((s.lane l).strays + 1)) (s.lane l).state)).post stockPort
          (.stray l a w (min 15 ((s.lane l).strays + 1)) (s.lane l).state) := by
  simp [State.takeStray, other, Config.strayCap]

/-! ## STRAY_CLEAR (R125) -/

theorem admitted_strayClear (ready : s.readyFor h.port) (lane : h.port = lanePort) (v n : Byte) :
    Admitted s (.strayClear h v n) h .strayClear [v, n] :=
  ⟨rfl, ready, Nat.le_of_ble_eq_true rfl, by rw [lane]; rfl⟩

/-- The work of STRAY_CLEAR before its answer. -/
def State.clearStrays (s : State) (l : LaneId) (n : Nat) : State :=
  if (s.lane l).strays = 0 then s
  else (s.modLane l fun y => { y with strays := (s.lane l).strays - n }).testComplete l

theorem takeStrayClear_eq (n : Nat) :
    s.takeStrayClear rt l n = (s.clearStrays l n).respond rt .done (u8 ((s.lane l).strays - n)) := rfl

theorem clearStrays_full {n : Nat} (filling : (s.lane l).state = .filling) (some : (s.lane l).strays ≠ 0)
    (none : (s.lane l).strays - n = 0) (arrived : ∀ y ∈ (s.lane l).lines, y.tyres.arrived = y.quantity) :
    s.clearStrays l n = (s.modLane l fun y => { y with strays := 0 }).announce l .complete := by
  rw [State.clearStrays, if_neg some, none,
    testComplete_of_full (by rw [modLane_lane_self]; exact filling)
      (by rw [modLane_lane_self, Lane.whole_iff]; exact ⟨arrived, rfl⟩)]

theorem clearStrays_short {n : Nat}
    (short : ¬ ((s.lane l).state = .filling ∧ (s.lane l).strays ≠ 0 ∧ (s.lane l).strays - n = 0
      ∧ ∀ y ∈ (s.lane l).lines, y.tyres.arrived = y.quantity)) :
    s.clearStrays l n = s.modLane l fun y => { y with strays := (s.lane l).strays - n } := by
  unfold State.clearStrays
  split
  · next none => rw [none, Nat.zero_sub]; exact (modLane_id s l (by rw [← none])).symm
  · next some =>
    refine testComplete_of_not_full ?_
    rw [modLane_lane_self, Lane.whole_iff]
    exact fun ⟨filling, arrived, cleared⟩ => short ⟨filling, some, cleared, arrived⟩

/-- Settles O9: a stray with and without COMPLETE, a clearing with and without the lane made whole. -/
theorem straysAreCountedAndCleared : Obligations.StraysAreCountedAndCleared := by
  refine ⟨fun h l article week s ready lane a1 a2 w1 w2 missed => ?stray, fun h l n s ready lane n1 n2 => ?clear⟩
  case stray =>
    intro x n state stray
    have admitted := admitted_arrival ready lane (byteOf l.val) article week
    have read := parse_arrival l article week ⟨a1, a2⟩ ⟨w1, w2⟩
    have takes : (s.accepted h.port).take ⟨h.port, RequestCode.arrival.byte, h.tag⟩ (.arrival l article.toNat week.toNat)
        = ((s.accepted h.port).takeStray l article.toNat week.toNat).respond ⟨h.port, RequestCode.arrival.byte, h.tag⟩
            .done [0xFF, 0xFF, 1] := by
      rw [State.take, State.takeArrival, accepted_lane, missed]
    by_cases complete : x.state = .complete
    · have after : state = .filling := if_pos complete
      rw [takeStray_of_complete (s := s.accepted h.port) complete] at takes
      rw [if_pos complete]
      refine admitted.completes_of_take_respond _ read rfl takes rfl ?_ fun q => ?_
      · rw [postLaneStateBoth_inner, post_inner, post_inner, modLane_inner, modLane_inner, accepted_inner, accepted_lane, after]
      · rw [postLaneStateBoth_port, post_postsTo, post_postsTo, ← postsTo_append, ← postsTo_append, post_lane, post_lane,
          modLane_lane_self, modLane_port, accepted_lane]
        simp only [stray, after]
        rfl
    · have after : state = x.state := if_neg complete
      rw [takeStray_of_other (s := s.accepted h.port) complete] at takes
      rw [if_neg complete]
      refine admitted.completes_of_take_respond _ read rfl takes rfl ?_ fun q => ?_
      · rw [post_inner, post_inner, modLane_inner, modLane_inner, accepted_inner, accepted_lane, after]
      · rw [post_postsTo, post_postsTo, ← postsTo_append, modLane_port, accepted_lane]
        simp only [stray, after]
        rfl
  case clear =>
    intro x left full
    have admitted := admitted_strayClear ready lane (byteOf l.val) (byteOf n)
    have read := parse_strayClear l n ⟨n1, n2⟩
    have takes := takeStrayClear_eq (s := s.accepted h.port) (l := l)
      (rt := ⟨h.port, RequestCode.strayClear.byte, h.tag⟩) n
    by_cases isFull : full
    · obtain ⟨filling, some, none, arrived⟩ := isFull
      rw [clearStrays_full (s := s.accepted h.port) filling some none arrived] at takes
      rw [if_pos ⟨filling, some, none, arrived⟩]
      refine admitted.completes_of_take_respond _ read rfl takes rfl ?_ fun q => ?_
      · rw [announced_inner]
        simp only [if_pos (show full from ⟨filling, some, none, arrived⟩), show left = 0 from none]
      · rw [announce_port, modLane_lane_self, modLane_port]; rfl
    · rw [clearStrays_short (s := s.accepted h.port) isFull] at takes
      rw [if_neg isFull]
      refine admitted.completes_of_take_respond _ read rfl takes rfl ?_ fun _ => rfl
      simp only [if_neg isFull]; rfl

/-! ## Orders (R53 to R56, R72) -/

theorem admitted_orderOpen (ready : s.readyFor h.port) (stock : h.port = stockPort) (v u : Byte) (ref : BitVec 32) :
    Admitted s (.orderOpen h v ref u) h .orderOpen ([v] ++ field 4 ref ++ [u]) :=
  ⟨rfl, ready, Nat.le_of_ble_eq_true rfl, by rw [stock]; rfl⟩

/-- Settles O11: one equation each for a lane taken and for an order dropped. -/
theorem anOpenOrderHasAFreeLaneAndATimer : Obligations.AnOpenOrderHasAFreeLaneAndATimer := by
  refine ⟨fun h l ref urgent s ready stock => ?opens, fun l s awake => ?expires⟩
  case opens =>
    intro x i
    have admitted := admitted_orderOpen ready stock (byteOf l.val) (if urgent then 1 else 0) ref
    have read := parse_orderOpen l ref urgent
    by_cases free : x.state = .free ∧ x.strays = 0
    · rw [if_pos free]
      exact admitted.completes_of_take_respond _ read rfl (if_pos free) rfl rfl fun _ => rfl
    · rw [if_neg free]
      exact admitted.completes_of_take_refuse read rfl (if_neg free)
  case expires =>
    intro x
    have some_iff : x.timer.isSome = true ↔ x.timer ≠ none := Option.isSome_iff_ne_none
    by_cases running : x.state = .opened ∧ x.timer ≠ none
    · have e : s.begin.expireOrderOpen l = (s.begin.modLane l Lane.discard).post stockPort (.orderState l x.ref .dropped) :=
        if_pos ⟨running.1, some_iff.mpr running.2⟩
      rw [if_pos running]
      refine (happensThen_of rfl awake ?_ ?_ fun q => ?_).happens
      · rw [e]; rfl
      · rw [e]; rfl
      · rw [e, post_postsTo]; rfl
    · have e : s.begin.expireOrderOpen l = s.begin := if_neg fun ⟨state, timer⟩ => running ⟨state, some_iff.mp timer⟩
      rw [if_neg running]
      exact (happensThen_of rfl awake (by rw [e]; rfl) (by rw [e]; rfl) fun q => by rw [e]; rfl).happens

end Lanes

end Sys2Proof.Machine

/-! What the dispatcher reads from the longer payloads (Table 11-2): lots, lines of an order, audit orders, decisions. -/

namespace Sys2Proof

open Machine (byteOf LineSpecLegal lineSpecField)

/-- A lot within the ranges of Table 1-2. -/
theorem lot?_of {a w m d : Nat} (ha : 1 ≤ a ∧ a ≤ 999999) (hw : 1 ≤ w ∧ w ≤ 4095) (hm : 1 ≤ m ∧ m ≤ 1000)
    (hd : 100 ≤ d ∧ d ≤ 500) : lot? a w m d = some ⟨a, w, m, d⟩ := by
  simp [lot?, article?, within?_of ha, within?_of hw, within?_of hm, within?_of hd]

theorem parse_loadBay_fields (r : BayRef) (a : BitVec 24) (w m d : BitVec 16) (n : Nat) (hn : n ≤ 15) :
    parseRequest .loadBay ([byteOf r.carousel.val, byteOf r.carrier.val, byteOf r.bay.val] ++ field 3 a ++ field 2 w
        ++ field 2 m ++ field 2 d ++ [byteOf n])
      = (load? a.toNat w.toNat m.toNat d.toNat n).map fun l => .loadBay r l.1 l.2 := by
  rw [field3, field2, field2, field2]
  show (do
    let r ← bayRef? _ _ _
    let l ← load? (natOf _) (natOf _) (natOf _) (natOf _) _
    pure (Request.loadBay r l.1 l.2)) = _
  rw [bayRef?_byteOf, natOf_field3, natOf_field2, natOf_field2, natOf_field2, byteOf_toNat (by omega)]
  cases load? a.toNat w.toNat m.toNat d.toNat n <;> rfl

theorem parse_loadBay (r : BayRef) (a : BitVec 24) (w m d : BitVec 16) (n : Nat) (ha : 1 ≤ a.toNat ∧ a.toNat ≤ 999999)
    (hw : 1 ≤ w.toNat ∧ w.toNat ≤ 4095) (hm : 1 ≤ m.toNat ∧ m.toNat ≤ 1000) (hd : 100 ≤ d.toNat ∧ d.toNat ≤ 500)
    (hn : n ≤ 15) :
    parseRequest .loadBay ([byteOf r.carousel.val, byteOf r.carrier.val, byteOf r.bay.val] ++ field 3 a ++ field 2 w
        ++ field 2 m ++ field 2 d ++ [byteOf n])
      = some (.loadBay r (some ⟨a.toNat, w.toNat, m.toNat, d.toNat⟩) n) := by
  rw [parse_loadBay_fields r a w m d n hn, load?, within?_of ⟨Nat.zero_le n, hn⟩, lot?_of ha hw hm hd]
  simp [show a.toNat ≠ 0 by omega]

/-- Article 0 with count 0 empties a bay; the other lot fields are not read (R15). -/
theorem parse_loadBay_empty (r : BayRef) (w m d : BitVec 16) :
    parseRequest .loadBay ([byteOf r.carousel.val, byteOf r.carrier.val, byteOf r.bay.val] ++ field 3 (0 : BitVec 24)
        ++ field 2 w ++ field 2 m ++ field 2 d ++ [0]) = some (.loadBay r none 0) :=
  parse_loadBay_fields r 0 w m d 0 (by omega)

/-! ## Lines of an order (Table 4-3, checks 1 and 2) -/

theorem lineSpec?_of {x : LineSpec} (legal : LineSpecLegal x) :
    lineSpec? x.article x.quantity x.setSize (x.minWeek.getD 0) = some x := by
  obtain ⟨a1, a2, q1, q2, size, multiple, weeks⟩ := legal
  obtain ⟨article, quantity, setSize, minWeek⟩ := x
  have bound : minWeek.getD 0 ≤ 4095 := by
    cases minWeek with
    | none => exact Nat.zero_le _
    | some w => exact (weeks w rfl).2
  have week : (if minWeek.getD 0 = 0 then none else some (minWeek.getD 0)) = minWeek := by
    cases minWeek with
    | none => rfl
    | some w => exact if_neg (show w ≠ 0 by have := (weeks w rfl).1; omega)
  simp only [lineSpec?, article?, within?_of ⟨a1, a2⟩, within?_of ⟨q1, q2⟩, within?_of ⟨Nat.zero_le _, bound⟩]
  show (if _ then some _ else none) = _
  rw [if_pos ⟨size, multiple⟩, week]

theorem lineSpecs?_cons {x : LineSpec} (legal : LineSpecLegal x) (rest : List Byte) :
    lineSpecs? ((lineSpecField x).bytes ++ rest) = (lineSpecs? rest).map (x :: ·) := by
  have spec := lineSpec?_of legal
  obtain ⟨a1, a2, q1, q2, size, -, weeks⟩ := legal
  have week : x.minWeek.getD 0 < 65536 := by
    cases e : x.minWeek with
    | none => simp
    | some w => have := weeks w e; simp; omega
  have article : (BitVec.ofNat 24 x.article).toNat = x.article := by simp; omega
  have minWeek : (BitVec.ofNat 16 (x.minWeek.getD 0)).toNat = x.minWeek.getD 0 := by simp; omega
  rw [LineField.bytes, lineSpecField, field3, field2]
  show (do
    let l ← lineSpec? (natOf _) (byteOf _).toNat (byteOf _).toNat (natOf _)
    let ls ← lineSpecs? rest
    pure (l :: ls)) = _
  rw [natOf_field3, natOf_field2, article, minWeek, byteOf_toNat (by omega), byteOf_toNat (by omega), spec]
  cases lineSpecs? rest <;> rfl

theorem lineSpecs?_of {specs : List LineSpec} (legal : ∀ x ∈ specs, LineSpecLegal x) :
    lineSpecs? ((specs.map lineSpecField).flatMap LineField.bytes) = some specs := by
  induction specs with
  | nil => rfl
  | cons x rest ih =>
    rw [List.map_cons, List.flatMap_cons, lineSpecs?_cons (legal x (by simp)), ih fun y m => legal y (by simp [m])]
    rfl

theorem parse_orderLines (l : LaneId) (final : Bool) (specs : List LineSpec) (some_ : 1 ≤ specs.length)
    (four : specs.length ≤ 4) (legal : ∀ x ∈ specs, LineSpecLegal x) :
    parseRequest .orderLines (orderLinesPayload (byteOf l.val) (if final then 1 else 0) (specs.map lineSpecField))
      = some (.orderLines l final specs) := by
  have length : ((specs.map lineSpecField).flatMap LineField.bytes).length = 7 * specs.length := by
    rw [Laws.Carried.flatMap_length, List.length_map]
  show orderLines? _ _ _ ((specs.map lineSpecField).flatMap LineField.bytes) = _
  have count : (BitVec.ofNat 8 (specs.map lineSpecField).length).toNat = specs.length := by simp; omega
  rw [orderLines?, count, within?_of ⟨some_, four⟩]
  show (if _ then _ else _) = _
  rw [if_pos length, index?_lane, lineSpecs?_of legal]
  cases final <;> rfl

end Sys2Proof

namespace Sys2Proof.Machine

variable {s : State} {l : LaneId} {h : Header} {rt : ReplyTo}

/-! ## ORDER_LINES (R54, R55) -/

theorem totalTyres_eq_sum (quantities : List Nat) : totalTyres quantities = quantities.sum := by
  rw [totalTyres, List.sum_eq_foldl]

theorem admitted_orderLines (ready : s.readyFor h.port) (stock : h.port = stockPort) (v f : Byte) {lines : List LineField}
    (four : lines.length ≤ 4) :
    Admitted s (.orderLines h v f lines) h .orderLines (orderLinesPayload v f lines) := by
  refine ⟨rfl, ready, ?_, by rw [stock]; rfl⟩
  rw [orderLinesPayload, List.length_append, Laws.Carried.flatMap_length]
  show 3 + 7 * lines.length ≤ 98
  omega

/-- The room that checks 4 and 5 of Table 4-3 ask for. -/
def State.roomFor (s : State) (l : LaneId) (specs : List LineSpec) : Prop :=
  (s.lane l).lines.length + specs.length ≤ 8
    ∧ ((s.lane l).lines.map Line.quantity).sum + (specs.map LineSpec.quantity).sum ≤ s.globals.laneCapacity

variable {final : Bool} {specs : List LineSpec}

theorem takeOrderLines_not_open (state : (s.lane l).state ≠ .opened) :
    s.takeOrderLines rt l final specs = s.refuse rt .wrongState := if_pos state

theorem takeOrderLines_no_room (state : (s.lane l).state = .opened) (full : ¬ s.roomFor l specs) :
    s.takeOrderLines rt l final specs = s.refuse rt .noSpace := by
  rw [State.roomFor, not_and_or, not_le, not_le] at full
  rw [State.takeOrderLines, if_neg (not_not.mpr state)]
  by_cases many : 8 < (s.lane l).lines.length + specs.length
  · exact if_pos many
  · rw [if_neg (show ¬ Config.linesPerOrder < _ from many), totalTyres_eq_sum, totalTyres_eq_sum]
    exact if_pos (full.resolve_left many)

theorem takeOrderLines_room (state : (s.lane l).state = .opened) (room : s.roomFor l specs) :
    s.takeOrderLines rt l final specs
      = (if final then (s.appendLines l specs).closeOrder l else s.appendLines l specs).respond rt .done [] := by
  rw [State.takeOrderLines, if_neg (not_not.mpr state), if_neg (not_lt.mpr (show _ ≤ Config.linesPerOrder from room.1)),
    totalTyres_eq_sum, totalTyres_eq_sum, if_neg (not_lt.mpr room.2)]

/-- Settles O12: the lane's state, the room and the final mark decide. -/
theorem orderLinesAppendAndCloseTheOrder : Obligations.OrderLinesAppendAndCloseTheOrder := by
  intro h l final specs s ready stock one four legal x i
  have admitted := admitted_orderLines ready stock (byteOf l.val) (if final then 1 else 0)
    (lines := specs.map lineSpecField) (by rwa [List.length_map])
  have read := parse_orderLines l final specs one four legal
  refine ⟨fun state => ?closed, fun o state order => ?opened⟩
  case closed => exact admitted.completes_of_take_refuse read rfl (takeOrderLines_not_open (s := s.accepted h.port) state)
  case opened =>
    intro lines fits
    have order' : (s.lane l).order = some o := order
    have room : (s.accepted h.port).roomFor l specs ↔ fits := by
      simp only [State.roomFor, accepted_lane, Lane.lines, order']; rfl
    have appended : s.appendLines l specs = s.modLane l fun y =>
        { y with order := some { o with lines := lines }, timer := some s.globals.orderOpenTime } :=
      modLane_congr s l (by simp [Lane.modLines, order', lines])
    refine ⟨fun full => ?_, fun fit open_ => ?_, fun fit closes => ?_⟩
    · exact admitted.completes_of_take_refuse read rfl
        (takeOrderLines_no_room (s := s.accepted h.port) state (mt room.mp full))
    · have takes := takeOrderLines_room (rt := ⟨h.port, RequestCode.orderLines.byte, h.tag⟩) (final := final)
        (s := s.accepted h.port) state (room.mpr fit)
      rw [if_neg (show ¬ final = true by rw [open_]; decide)] at takes
      refine admitted.completes_of_take_respond _ read rfl takes rfl ?_ fun _ => rfl
      rw [← appended]; rfl
    · have takes := takeOrderLines_room (rt := ⟨h.port, RequestCode.orderLines.byte, h.tag⟩) (final := final)
        (s := s.accepted h.port) state (room.mpr fit)
      rw [if_pos closes] at takes
      refine admitted.completesThen_of_take_respond _ read rfl takes rfl ?_ fun _ => rfl
      have closed : ((s.appendLines l specs).modLane l fun y =>
          { y with state := .filling, timer := none, order := y.order.map fun o => { o with closeStamp := some s.stamp } })
          = s.modLane l fun y => { y with state := .filling, timer := none, order := some { o with lines := lines, closeStamp := some s.stamp } } := by
        rw [appended, modLane_modLane]; rfl
      show State.inner (State.bumpStamp ((State.appendLines (s.accepted h.port) l specs).modLane l _)) = _
      rw [← closed]
      rfl

end Sys2Proof.Machine

/-! LOAD_BAY and the eight reads (chapters 1 and 10), and the rotation between two offsets (chapter 2). -/

namespace Sys2Proof.Machine

section Stock

variable {s : State} {h : Header} {rt : ReplyTo} {r : BayRef} {lot : Option Lot} {count : Nat}

/-! ## One change of a bay as a request's work -/

/-- A request whose block changes one bay (R8, R30). -/
theorem Admitted.completesThen_of_take_changeBay {i : Instr} {code : RequestCode} {payload : List Byte} {q : Request}
    {f g : Bay → Bay} (a : Admitted s i h code payload) (read : parseRequest code payload = some q)
    (may : s.stationMay h.port q = true)
    (answers : (s.accepted h.port).take ⟨h.port, code.byte, h.tag⟩ q
      = ((s.accepted h.port).changeBay r g).respond ⟨h.port, code.byte, h.tag⟩ .done []) (same : g = f) :
    CompletesThen i s h code .done [] (s.bookPosts r f)
      { select := (s.carousel r.carousel).flips r.carrier r.bay f,
        unhold := (s.carousel r.carousel).flips r.carrier r.bay f } (s.booked r f) := by
  subst same
  refine a.completesThen_of_take_respond _ read may answers ?_ ?_ fun q => changeBay_port _ r g q
  · rw [changeBay_due, accepted_due, accepted_carousel]; simp
  · rw [changeBay_inner, State.booked, State.booked, modCarousel_inner, modCarousel_inner, accepted_inner]

/-! ## LOAD_BAY (Table 1-5) -/

theorem admitted_loadBay (ready : s.readyFor h.port) (stock : h.port = stockPort) (c k b : Byte) (a : BitVec 24)
    (w m d : BitVec 16) (n : Byte) :
    Admitted s (.loadBay h c k b a w m d n) h .loadBay
      ([c, k, b] ++ field 3 a ++ field 2 w ++ field 2 m ++ field 2 d ++ [n]) :=
  ⟨rfl, ready, Nat.le_of_ble_eq_true rfl, by rw [stock]; rfl⟩

theorem takeLoadBay_noSuch (absent : (s.carousel r.carousel).cfg.n ≤ r.carrier.val) :
    s.takeLoadBay rt r lot count = s.refuse rt .noSuch := if_pos (not_lt.mpr absent)

theorem takeLoadBay_wrongState (there : r.carrier.val < (s.carousel r.carousel).cfg.n)
    (state : (s.carousel r.carousel).motion.state ∉ [.offline, .withdrawn] ∨ (s.bay r).disputed = true) :
    s.takeLoadBay rt r lot count = s.refuse rt .wrongState := by
  have there' : ¬ ¬ r.carrier.val < (s.carousel r.carousel).cfg.n := not_not.mpr there
  by_cases out : (s.carousel r.carousel).motion.state.outOfService = true
  · have disputed : (s.bay r).disputed = true :=
      state.resolve_left fun away => away (by simpa using (outOfService_iff _).mp out)
    simp only [State.takeLoadBay, if_neg there', out, not_true_eq_false, if_false, disputed, if_true]
  · simp only [State.takeLoadBay, if_neg there', out, Bool.false_eq_true, not_false_eq_true, if_true]

/-- The bay can be written: checks 2 to 4 of Table 1-5 pass. -/
structure State.Loadable (s : State) (r : BayRef) : Prop where
  there : r.carrier.val < (s.carousel r.carousel).cfg.n
  out : (s.carousel r.carousel).motion.state ∈ [.offline, .withdrawn]
  undisputed : (s.bay r).disputed = false

theorem takeLoadBay_badRange (loadable : s.Loadable r)
    (heavy : s.stackLimitFor r.carousel ((lot.map Lot.width).getD 1) < count
      ∨ (s.carousel r.carousel).cfg.payloadLimit < s.loadedPayload r lot count) :
    s.takeLoadBay rt r lot count = s.refuse rt .badRange := by
  obtain ⟨there, out, undisputed⟩ := loadable
  have out' : (s.carousel r.carousel).motion.state.outOfService = true :=
    (outOfService_iff _).mpr (by simpa using out)
  simp only [State.takeLoadBay, not_not.mpr there, out', undisputed, if_false, not_true_eq_false, Bool.false_eq_true]
  split
  · rfl
  · next fits => exact if_pos (heavy.resolve_left fits)

theorem takeLoadBay_loads (loadable : s.Loadable r)
    (fits : count ≤ s.stackLimitFor r.carousel ((lot.map Lot.width).getD 1))
    (light : s.loadedPayload r lot count ≤ (s.carousel r.carousel).cfg.payloadLimit) :
    s.takeLoadBay rt r lot count = (s.changeBay r (loadedBay lot count)).respond rt .done [] := by
  obtain ⟨there, out, undisputed⟩ := loadable
  have out' : (s.carousel r.carousel).motion.state.outOfService = true :=
    (outOfService_iff _).mpr (by simpa using out)
  simp only [State.takeLoadBay, not_not.mpr there, out', undisputed, if_false, not_true_eq_false, Bool.false_eq_true,
    gt_iff_lt, not_lt.mpr fits, not_lt.mpr light]

theorem loadedBay_some (x : Lot) :
    loadedBay (some x) count = fun b =>
      { b with lot := if count = 0 then none else some x, count := count, reserved := 0, incoming := 0 } := by
  funext b
  by_cases empty : count = 0 <;> simp [loadedBay, empty]

theorem loadedPayload_some (x : Lot) :
    s.loadedPayload r (some x) count
      = (s.carrier r.carousel r.carrier).payload - (s.bay r).mass + count * x.unitMass := by
  rw [State.loadedPayload, loadedBay_some]
  by_cases empty : count = 0 <;> simp [Bay.mass, empty]

/-- Settles O17: the checks of Table 1-5 in order, then one change of the bay. -/
theorem loadBayWritesTheBook : Obligations.LoadBayWritesTheBook := by
  refine ⟨fun h r article week mass width count s ready stock a1 a2 w1 w2 m1 m2 d1 d2 bound => ?lot,
    fun h r week mass width s ready stock there out undisputed light => ?empty⟩
  case lot =>
    intro x f i
    have admitted := admitted_loadBay ready stock (byteOf r.carousel.val) (byteOf r.carrier.val) (byteOf r.bay.val)
      article week mass width (byteOf count)
    have read := parse_loadBay r article week mass width count ⟨a1, a2⟩ ⟨w1, w2⟩ ⟨m1, m2⟩ ⟨d1, d2⟩ bound
    by_cases absent : x.cfg.n ≤ r.carrier.val
    · rw [if_pos absent]
      exact admitted.completes_of_take_refuse read rfl (takeLoadBay_noSuch (s := s.accepted h.port) absent)
    rw [if_neg absent]
    by_cases state : x.motion.state ∉ [.offline, .withdrawn] ∨ (s.bay r).disputed = true
    · rw [if_pos state]
      exact admitted.completes_of_take_refuse read rfl
        (takeLoadBay_wrongState (s := s.accepted h.port) (not_le.mp absent) state)
    rw [if_neg state]
    rw [not_or, not_not, Bool.not_eq_true] at state
    have loadable : (s.accepted h.port).Loadable r := ⟨not_le.mp absent, state.1, state.2⟩
    have payload := loadedPayload_some (s := s) (r := r) (count := count) ⟨article.toNat, week.toNat, mass.toNat, width.toNat⟩
    by_cases heavy : stackLimit x.cfg.bayHeight width.toNat < count
        ∨ x.cfg.payloadLimit < (s.carrier r.carousel r.carrier).payload - (s.bay r).mass + count * mass.toNat
    · rw [if_pos heavy]
      refine admitted.completes_of_take_refuse read rfl (takeLoadBay_badRange loadable ?_)
      exact heavy.imp id fun e => lt_of_lt_of_eq e payload.symm
    · rw [if_neg heavy]
      rw [not_or, not_lt, not_lt] at heavy
      exact admitted.completesThen_of_take_changeBay read rfl
        (takeLoadBay_loads loadable heavy.1 (le_of_eq_of_le payload heavy.2)) (loadedBay_some _)
  case empty =>
    intro f flips
    have admitted := admitted_loadBay ready stock (byteOf r.carousel.val) (byteOf r.carrier.val) (byteOf r.bay.val)
      0 week mass width 0
    have written : loadedBay none 0 = f := rfl
    refine admitted.completesThen_of_take_changeBay (parse_loadBay_empty r week mass width) rfl
      (takeLoadBay_loads (s := s.accepted h.port) ⟨there, out, undisputed⟩ (Nat.zero_le _) ?_) written
    rw [State.loadedPayload, written]
    exact light

/-! ## The reads -/

theorem admitted_stock {i : Instr} {code : RequestCode} {payload : List Byte} (ready : s.readyFor h.port)
    (stock : h.port = stockPort) (runs : exec i s = .next (s.request h code payload))
    (fits : payload.length ≤ Config.maxPayload) (allowed : code.allowedOn stockPort = true) :
    Admitted s i h code payload := ⟨runs, ready, fits, by rw [stock]; exact allowed⟩

theorem readLane_allowed {p : PortId} (lanes : p = stockPort ∨ p = lanePort) :
    RequestCode.readLane.allowedOn p = true := by
  rcases lanes with rfl | rfl <;> rfl

/-- Check 5 of R154: only the carousel's own station may name it. -/
theorem stationSends_iff {st : StationId} {c : CarouselId} :
    s.stationSends (stationPort st) c = true ↔ (s.carousel c).cfg.station = some st := by
  show decide _ = true ↔ _
  rw [decide_eq_true_iff]
  exact (Option.map_injective stationPort_injective).eq_iff (b := some st)

/-- Settles O18: each read is a response, with the body its rule gives. -/
theorem readsAnswerAndChangeNothing : Obligations.ReadsAnswerAndChangeNothing := by
  intro h s ready
  refine ⟨fun stock => ⟨?status, fun c => ?carousel, fun r there => ?bay, fun c k there => ?carrier, fun a a1 a2 => ?lots,
    fun i x record => ?named, fun none => ?none, fun i x rest order record => ?oldest⟩,
    fun lanes l => ⟨?head, fun p p1 p2 => ?part⟩, fun st c first station own bound => ?face⟩
  case status =>
    exact Admitted.completes_of_take_answer (code := .readStatus)
      (admitted_stock ready stock rfl (Nat.le_of_ble_eq_true rfl) rfl) (r := .readStatus) rfl rfl rfl
  case carousel =>
    exact Admitted.completes_of_take_answer (admitted_stock ready stock rfl (Nat.le_of_ble_eq_true rfl) rfl)
      (parse_readCarousel c) rfl rfl
  case bay =>
    exact Admitted.completes_of_take_answer (admitted_stock ready stock rfl (Nat.le_of_ble_eq_true rfl) rfl)
      (parse_readBay r) rfl (if_neg (not_not.mpr there))
  case carrier =>
    exact Admitted.completes_of_take_answer (admitted_stock ready stock rfl (Nat.le_of_ble_eq_true rfl) rfl)
      (parse_readCarrier c k) rfl (if_neg (not_not.mpr there))
  case lots =>
    exact Admitted.completes_of_take_answer (admitted_stock ready stock rfl (Nat.le_of_ble_eq_true rfl) rfl)
      (parse_findLots a ⟨a1, a2⟩) rfl rfl
  case named =>
    refine Admitted.completes_of_take_answer (admitted_stock ready stock rfl (Nat.le_of_ble_eq_true rfl) rfl)
      (parse_readDiscrepancy i) rfl ?_
    simp only [State.take, State.takeReadDiscrepancy, accepted_disc, record]
    rfl
  case none =>
    refine Admitted.completes_of_take_answer (admitted_stock ready stock rfl (Nat.le_of_ble_eq_true rfl) rfl)
      parse_readDiscrepancy_none rfl ?_
    simp only [State.take, State.takeReadDiscrepancy, show (s.accepted h.port).discOrder = [] from none]
    rfl
  case oldest =>
    refine Admitted.completes_of_take_answer (admitted_stock ready stock rfl (Nat.le_of_ble_eq_true rfl) rfl)
      parse_readDiscrepancy_none rfl ?_
    simp only [State.take, State.takeReadDiscrepancy, show (s.accepted h.port).discOrder = i :: rest from order,
      accepted_disc, record]
    rfl
  case head =>
    exact Admitted.completes_of_take_answer ⟨rfl, ready, Nat.le_of_ble_eq_true rfl, readLane_allowed lanes⟩
      (parse_readLane l 0 (by omega)) rfl rfl
  case part =>
    refine Admitted.completes_of_take_answer ⟨rfl, ready, Nat.le_of_ble_eq_true rfl, readLane_allowed lanes⟩
      (parse_readLane l p p2) rfl ?_
    rw [State.take, State.takeReadLane, if_neg (by omega)]
    rfl
  case face =>
    refine Admitted.completes_of_take_answer
      ⟨rfl, ready, Nat.le_of_ble_eq_true rfl, by rw [station]; exact isStationPort_stationPort st⟩
      (parse_readFace c first bound) ?_ rfl
    rw [station]
    exact stationSends_iff.mpr own

end Stock

end Sys2Proof.Machine

/-! The way between two offsets (R23, R32), and the laws of payload, half-profile and peak (R7, R24, R26). -/

namespace Sys2Proof.Machine

/-! ## Rotation (R23, R32) -/

/-- The forward steps from offset k to offset t. -/
theorem forward_steps {n k t : Nat} (hk : k < n) (ht : t < n) :
    (t + n - k) % n < n ∧ (t = k + (t + n - k) % n ∨ t + n = k + (t + n - k) % n) := by
  refine ⟨Nat.mod_lt _ (by omega), ?_⟩
  by_cases ahead : k ≤ t
  · rw [show t + n - k = t - k + n by omega, Nat.add_mod_right, Nat.mod_eq_of_lt (by omega)]; omega
  · rw [Nat.mod_eq_of_lt (by omega)]; omega

theorem faceCarrier_targetOffset {n k : Nat} (hk : k < n) : faceCarrier n (targetOffset n k) = k := by
  unfold faceCarrier targetOffset
  rcases Nat.eq_zero_or_pos k with rfl | positive
  · simp
  · rw [Nat.mod_eq_of_lt (by omega : n - k < n), show n - (n - k) = k by omega, Nat.mod_eq_of_lt hk]

/-- Settles O15: the shorter of the forward steps and their complement. -/
theorem theShorterWayEndsAtTheTarget : Obligations.TheShorterWayEndsAtTheTarget := by
  intro n k t even big hk ht way
  obtain ⟨below, ends⟩ := forward_steps hk ht
  refine ⟨?_, ?_, ?_, faceCarrier_targetOffset hk⟩ <;> simp only [way, rotation] <;> generalize (t + n - k) % n = f at below ends
  · split <;> dsimp only <;> omega
  · split
    · intro _
      rcases ends with e | e
      · rw [← e, Nat.mod_eq_of_lt ht]
      · show (k + f) % n = t
        rw [← e, Nat.add_mod_right, Nat.mod_eq_of_lt ht]
    · exact nofun
  · split
    · exact nofun
    · intro _
      refine ⟨?_, by dsimp only; omega⟩
      rcases ends with e | e
      · rw [show k + n - (n - f) = t by omega, Nat.mod_eq_of_lt ht]
      · rw [show k + n - (n - f) = t + n by omega, Nat.add_mod_right, Nat.mod_eq_of_lt ht]

/-! ## The peak (R26) -/

theorem scanPeak_bounds (entries : Vector Int 20) (l : List (Fin 20)) :
    ∀ k ∈ l, (look entries k).natAbs ≤ (scanPeak entries l).1 := by
  induction l with
  | nil => simp
  | cons a rest ih =>
    intro k m
    simp only [scanPeak]
    split
    · next top =>
      rcases List.mem_cons.mp m with rfl | m
      · exact le_refl _
      · exact (ih k m).trans top
    · next low =>
      rcases List.mem_cons.mp m with rfl | m
      · exact (not_le.mp low).le
      · exact ih k m

/-- The scan answers the first offset of the largest magnitude. -/
theorem scanPeak_first (entries : Vector Int 20) {l : List (Fin 20)} (sorted : l.Pairwise (· < ·)) (some : l ≠ []) :
    ∃ k ∈ l, k.val = (scanPeak entries l).2 ∧ (look entries k).natAbs = (scanPeak entries l).1
      ∧ ∀ j ∈ l, j < k → (look entries j).natAbs < (scanPeak entries l).1 := by
  induction l with
  | nil => exact absurd rfl some
  | cons a rest ih =>
    obtain ⟨first, sorted'⟩ := List.pairwise_cons.mp sorted
    simp only [scanPeak]
    split
    · refine ⟨a, by simp, rfl, rfl, fun j m below => ?_⟩
      rcases List.mem_cons.mp m with rfl | m
      · exact absurd below (lt_irrefl _)
      · exact absurd (first j m) (not_lt.mpr below.le)
    · next low =>
      have some' : rest ≠ [] := by
        rintro rfl; exact low (Nat.zero_le _)
      obtain ⟨k, m, offset, peak, before⟩ := ih sorted' some'
      refine ⟨k, by simp [m], offset, peak, fun j m' below => ?_⟩
      rcases List.mem_cons.mp m' with rfl | m'
      · exact not_le.mp low
      · exact before j m' below

theorem mem_halfOffsets {n : Nat} {k : Fin 20} : k ∈ halfOffsets n ↔ k.val < n / 2 := by
  simp [halfOffsets, List.mem_finRange]

theorem halfOffsets_sorted (n : Nat) : (halfOffsets n).Pairwise (· < ·) :=
  List.Pairwise.filter _ (List.pairwise_lt_finRange 20)

/-- Working the peak anew makes it right (R26). -/
theorem rework_peakRight {n : Nat} (positive : 0 < n / 2) (b : Balance) : (b.rework n).peakRight n := by
  have some : halfOffsets n ≠ [] := List.ne_nil_of_mem (mem_halfOffsets (k := 0).mpr positive)
  obtain ⟨k, m, offset, peak, before⟩ := scanPeak_first b.entries (halfOffsets_sorted n) some
  exact ⟨fun j inside => scanPeak_bounds b.entries _ j (mem_halfOffsets.mpr inside),
    k, mem_halfOffsets.mp m, offset, peak, fun j below =>
      before j (mem_halfOffsets.mpr (lt_trans below (mem_halfOffsets.mp m))) below⟩

/-! ## The sums (R7, R24) -/

theorem bookMass_eq_sum (bays : Vector Bay 4) : bookMass bays = ∑ b : BayId, (look bays b).mass := by
  rw [bookMass]
  obtain ⟨⟨l⟩, h⟩ := bays
  match l, h with
  | [a, b, c, d], _ => simp [Fin.sum_univ_succ, look]

theorem payloadSum_eq_sum (carriers : Vector Carrier 40) (keep : Fin 40 → Bool) :
    payloadSum carriers keep = ∑ c, if keep c then ((look carriers c).payload : Int) else 0 := by
  rw [payloadSum, Fin.sum_univ_def]

/-- A write of one bay moves its carrier's sum by the change of its mass. -/
theorem bookMass_put (bays : Vector Bay 4) (b : BayId) (x : Bay) :
    (bookMass (put bays b x) : Int) = bookMass bays + (x.mass - (look bays b).mass) := by
  rw [bookMass_eq_sum, bookMass_eq_sum, Nat.cast_sum, Nat.cast_sum, ← sub_eq_iff_eq_add', ← Finset.sum_sub_distrib]
  rw [Finset.sum_eq_single b]
  · simp
  · intro c _ other
    simp [Ne.symm other]
  · simp

theorem payloadSum_put (carriers : Vector Carrier 40) (k : Fin 40) (x : Carrier) (keep : Fin 40 → Bool) :
    payloadSum (put carriers k x) keep
      = payloadSum carriers keep + if keep k then (x.payload : Int) - (look carriers k).payload else 0 := by
  rw [payloadSum_eq_sum, payloadSum_eq_sum, ← sub_eq_iff_eq_add', ← Finset.sum_sub_distrib]
  rw [Finset.sum_eq_single k]
  · by_cases kept : keep k = true <;> simp [kept]
  · intro c _ other
    simp [Ne.symm other]
  · simp

theorem profileAt_put {n : Nat} (carriers : Vector Carrier 40) {k : Fin 40} (inUse : k.val < n) (x : Carrier) (j : Nat) :
    profileAt n (put carriers k x) j
      = profileAt n carriers j
        + if onFront n j k.val then (x.payload : Int) - (look carriers k).payload
          else -((x.payload : Int) - (look carriers k).payload) := by
  rw [profileAt, profileAt, payloadSum_put, payloadSum_put]
  by_cases front : onFront n j k.val = true <;> simp [inUse, front] <;> ring

theorem settleEmpty_mass (b : Bay) : b.settleEmpty.mass = b.mass := by
  unfold Bay.settleEmpty
  split
  · next empty =>
    obtain ⟨count, _, incoming⟩ := empty
    cases e : b.lot <;> simp [Bay.mass, count, incoming, e]
  · rfl

/-! ## One change of a bay (R8) -/

/-- What one change of a bay adds to the carrier's planned payload. -/
def Carousel.delta (k : CarrierId) (b : BayId) (f : Bay → Bay) (x : Carousel) : Int :=
  ((f (look (look x.carriers k).bays b)).mass : Int) - ((look (look x.carriers k).bays b).mass : Int)

section Booked

variable {x : Carousel} {k : CarrierId} {b : BayId} {f : Bay → Bay}

/-- The carrier after the change. -/
def Carousel.bookedCarrier (k : CarrierId) (b : BayId) (f : Bay → Bay) (x : Carousel) : Carrier :=
  { bays := put (look x.carriers k).bays b (f (look (look x.carriers k).bays b)).settleEmpty,
    payload := (((look x.carriers k).payload : Int) + x.delta k b f).toNat }

theorem booked_carriers : (x.booked k b f).carriers = put x.carriers k (x.bookedCarrier k b f) := rfl

theorem booked_bookMass (right : x.payloadsRight) :
    (bookMass (x.bookedCarrier k b f).bays : Int) = (look x.carriers k).payload + x.delta k b f := by
  rw [Carousel.bookedCarrier, bookMass_put, settleEmpty_mass, right k]; rfl

theorem booked_payload (right : x.payloadsRight) : (x.bookedCarrier k b f).payload = bookMass (x.bookedCarrier k b f).bays := by
  rw [Carousel.bookedCarrier, ← booked_bookMass right, Int.toNat_natCast]; rfl

theorem booked_payloadsRight (right : x.payloadsRight) : (x.booked k b f).payloadsRight := by
  intro j
  rw [booked_carriers, look_put]
  split
  · exact booked_payload right
  · exact right j

theorem booked_payload_change (right : x.payloadsRight) :
    ((x.bookedCarrier k b f).payload : Int) - (look x.carriers k).payload = x.delta k b f := by
  rw [booked_payload right, booked_bookMass right]; omega

theorem booked_entries (j : Fin 20) (inside : j.val < x.cfg.n / 2) :
    look (x.booked k b f).balance.entries j
      = look x.balance.entries j + if onFront x.cfg.n j.val k.val then x.delta k b f else -x.delta k b f := by
  show look (if x.delta k b f = 0 then x.balance else { x.balance.shift x.cfg.n k.val (x.delta k b f) with
    overweight := _ }).entries j = _
  split
  · next none => simp [none]
  · show look (Vector.ofFn (shiftedEntry _ _ _ _)) j = _
    rw [look_ofFn, shiftedEntry, if_pos inside]
    split
    · rfl
    · rw [Int.sub_eq_add_neg]

theorem booked_profileRight (payloads : x.payloadsRight) (inUse : k.val < x.cfg.n) (right : x.profileRight) :
    (x.booked k b f).profileRight := by
  intro j inside
  have inside' : j.val < x.cfg.n / 2 := inside
  rw [booked_entries j inside', booked_carriers]
  show _ = profileAt x.cfg.n _ _
  rw [profileAt_put _ inUse, booked_payload_change payloads, right j inside']

theorem booked_peakRight (positive : 0 < x.cfg.n / 2) (right : x.balance.peakRight x.cfg.n) :
    (x.booked k b f).balance.peakRight x.cfg.n := by
  show Balance.peakRight x.cfg.n (if x.delta k b f = 0 then x.balance else { x.balance.shift x.cfg.n k.val (x.delta k b f) with
    overweight := _ })
  split
  · exact right
  · exact rework_peakRight positive _

end Booked

/-- The three laws of one carousel. -/
theorem booked_laws {x : Carousel} {k : CarrierId} (b : BayId) (f : Bay → Bay) (legal : x.cfg.legal) (inUse : k.val < x.cfg.n)
    (payloads : x.payloadsRight) (profile : x.profileRight) (peak : x.balance.peakRight x.cfg.n) :
    (x.booked k b f).payloadsRight ∧ (x.booked k b f).profileRight
      ∧ (x.booked k b f).balance.peakRight (x.booked k b f).cfg.n := by
  have big : 8 ≤ x.cfg.n := legal.2.1
  have positive : 0 < x.cfg.n / 2 := Nat.div_pos (by omega) (by decide)
  rw [booked_cfg]
  exact ⟨booked_payloadsRight payloads, booked_profileRight payloads inUse profile, booked_peakRight positive peak⟩

/-- Settles O14: the three laws of the carousel after one change. -/
theorem oneChangeKeepsTheBalanceLaw : Obligations.OneChangeKeepsTheBalanceLaw := by
  intro r f s x y legal inUse payloads profile peak
  have changed : (s.changeBay r f).carousel r.carousel = (s.carousel r.carousel).booked r.carrier r.bay f := by
    rw [changeBay_carousel, if_pos rfl]
  simp only [y, changed]
  exact booked_laws r.bay f legal inUse payloads profile peak

end Sys2Proof.Machine

/-! Ports and links (chapter 9): what a placed response and a posted notice leave of a port, characters and frames on the
way in, and the transmitter. -/

namespace Sys2Proof.Machine

/-! ## One port (R155 to R157) -/

theorem startNext_busy {x : Port} (busy : x.sending ≠ none ∨ x.held = true) : x.startNext = x := by
  refine if_pos ?_
  rcases busy with sending | held
  · simp [Option.isSome_iff_ne_none.mpr sending]
  · simp [held]

/-- A transmitter that may start a frame. -/
structure Port.Free (x : Port) : Prop where
  sending : x.sending = none
  held : x.held = false

theorem startNext_response {x : Port} {r : Response} (free : x.Free) (slot : x.slot = some r) :
    x.startNext = { x with sending := some (.response r), slot := none } := by
  simp [Port.startNext, free.sending, free.held, slot]

theorem startNext_notice {x : Port} {n : Notice} {rest : List Notice} (free : x.Free) (slot : x.slot = none)
    (queue : x.queue = n :: rest) : x.startNext = { x with sending := some (.notice n), queue := rest } := by
  simp [Port.startNext, free.sending, free.held, slot, queue]

theorem startNext_nothing {x : Port} (slot : x.slot = none) (queue : x.queue = []) : x.startNext = x := by
  simp [Port.startNext, slot, queue]

theorem startNext_buffer (x : Port) : x.startNext.buffer = x.buffer ∧ x.startNext.inProcess = x.inProcess := by
  unfold Port.startNext
  split
  · exact ⟨rfl, rfl⟩
  · split
    · exact ⟨rfl, rfl⟩
    · split <;> exact ⟨rfl, rfl⟩

theorem place_free {x : Port} (free : x.Free) (code tag : Byte) (o : ReplyCode) (body : List Byte) :
    x.place code tag o body
      = { x with sending := some (.response ⟨code, tag, o, x.flags, body⟩), slot := none, flags := {}, inProcess := false } :=
  startNext_response ⟨free.sending, free.held⟩ rfl

theorem place_busy {x : Port} (busy : x.sending ≠ none ∨ x.held = true) (code tag : Byte) (o : ReplyCode)
    (body : List Byte) :
    x.place code tag o body
      = { x with slot := some ⟨code, tag, o, x.flags, body⟩, flags := {}, inProcess := false } :=
  startNext_busy (x := { x with slot := some ⟨code, tag, o, x.flags, body⟩, flags := {}, inProcess := false }) busy

/-- The bits of the status byte (Table 11-5). -/
theorem flags_byte (f : PortFlags) :
    f.byte.getLsbD 0 = f.parity ∧ f.byte.getLsbD 1 = f.framing ∧ f.byte.getLsbD 2 = f.check ∧ f.byte.getLsbD 3 = f.gap
      ∧ f.byte.getLsbD 4 = f.overrun ∧ f.byte.getLsbD 5 = f.noticeLost ∧ f.byte.getLsbD 6 = false
      ∧ (f.byte.getLsbD 7 = true ↔ f ≠ {}) := by
  obtain ⟨a, b, c, d, e, g⟩ := f
  revert a b c d e g
  decide

/-- Settles O41: a placed response where the transmitter is free and where it is not. -/
theorem aResponseReportsAndClearsTheFlags : Obligations.AResponseReportsAndClearsTheFlags := by
  intro code tag o body x r y
  have bits := flags_byte x.flags
  by_cases free : x.sending = none ∧ x.held = false
  · have placed : y = _ := place_free ⟨free.1, free.2⟩ (responseCode code) tag o body
    rw [if_pos free, placed]
    exact ⟨rfl, rfl, rfl, rfl, ⟨rfl, rfl⟩, rfl, bits⟩
  · have busy : x.sending ≠ none ∨ x.held = true := by
      rwa [not_and_or, Bool.not_eq_false] at free
    have placed : y = _ := place_busy busy (responseCode code) tag o body
    rw [if_neg free, placed]
    exact ⟨rfl, rfl, rfl, rfl, ⟨rfl, rfl⟩, rfl, bits⟩

/-- Settles O42: a full queue, a busy transmitter and a free one. -/
theorem noticesQueueBehindResponses : Obligations.NoticesQueueBehindResponses := by
  refine ⟨fun n x => ⟨fun full => ?_, fun room busy => ?_, fun room sending held slot m rest queue => ?_⟩,
    fun x sending => ⟨fun held => startNext_busy (.inr held), fun r held slot => startNext_response ⟨sending, held⟩ slot,
      fun n rest held slot queue => startNext_notice ⟨sending, held⟩ slot queue,
      fun _ slot queue => startNext_nothing slot queue⟩⟩
  · exact if_neg (not_lt.mpr full)
  · exact (if_pos room).trans (startNext_busy busy)
  · exact (if_pos room).trans (startNext_notice (x := { x with queue := x.queue ++ [n] }) ⟨sending, held⟩ slot queue)

/-! ## Operations of one port -/

section Links

variable {s : State} {p : PortId} {i : Instr}

theorem modPort_id (f : Port → Port) (h : f (s.port p) = s.port p) : s.modPort p f = s := by
  rw [State.modPort, h, State.port, put_look_self]

theorem begin_port : s.begin.port p = s.port p := rfl
theorem begin_modPort (f : Port → Port) : (s.modPort p f).begin = s.begin.modPort p f := rfl
theorem begin_begin : s.begin.begin = s.begin := rfl

/-- A command that leaves one port at `y` and everything else as it was. -/
def OnlyPort (i : Instr) (s : State) (p : PortId) (y : Port) : Prop :=
  ∃ t, exec i s = .next t ∧ t.inner = s.inner ∧ t.port p = y ∧ s.portsBut t [p]

/-- An operation that writes one port and makes nothing due. -/
theorem onlyPort_of {f : State → State} {g : Port → Port} {y : Port} (runs : exec i s = .next (s.operation f))
    (awake : s.part ≠ .halted) (work : f s.begin = s.begin.modPort p g) (becomes : g (s.port p) = y) :
    OnlyPort i s p y := by
  refine ⟨s.begin.modPort p g, ?_, by rw [modPort_inner, begin_inner], ?_, fun q other => ?_⟩
  · rw [runs, State.operation, if_neg awake, work, settle_of_nothing_due _ rfl]
  · rw [modPort_port_self]; exact becomes
  · exact modPort_port_ne _ _ fun e => other (by simp [e])

/-- An operation that changes nothing. -/
theorem onlyPort_nothing {f : State → State} (runs : exec i s = .next (s.operation f)) (awake : s.part ≠ .halted)
    (work : f s.begin = s.begin) : OnlyPort i s p (s.port p) :=
  onlyPort_of (g := id) runs awake (work.trans (modPort_id id rfl).symm) rfl

/-! ## Characters and frame endings (R151, R152) -/

/-- A frame that does not end good is discarded with its flag. -/
theorem endFrame_bad {e : FrameEnd} (bad : ∀ f, e ≠ .good f) :
    s.endFrame p e = s.modPort p fun x => { x with receiver := .hunting, flags := flagFor e x.flags } := by
  cases e with
  | good f => exact absurd rfl (bad f)
  | framingError => simp only [State.endFrame, modPort_modPort]; rfl
  | badLength => simp only [State.endFrame, modPort_modPort]; rfl
  | parityError => simp only [State.endFrame, modPort_modPort]; rfl
  | checkError => simp only [State.endFrame, modPort_modPort]; rfl

theorem assemble_bad_length {v : Byte} (outside : v.toNat < 2 ∨ 100 < v.toNat) (noted : Bool) :
    assemble [v] noted = some .badLength := if_pos outside

theorem assemble_length {v : Byte} (two : 2 ≤ v.toNat) (hundred : v.toNat ≤ 100) (noted : Bool) :
    assemble [v] noted = none := by
  rw [assemble, if_neg (by omega), if_neg (by rw [List.length_nil]; omega)]

theorem assemble_goes_on {len v : Byte} {rest : List Byte} (two : 2 ≤ len.toNat) (hundred : len.toNat ≤ 100)
    (short : rest.length + 1 < len.toNat + 2) (noted : Bool) : assemble (len :: rest ++ [v]) noted = none := by
  rw [List.cons_append, assemble, if_neg (by omega), if_neg (by simp; omega)]

theorem assemble_completes {len v : Byte} {rest : List Byte} (two : 2 ≤ len.toNat) (hundred : len.toNat ≤ 100)
    (full : rest.length + 1 = len.toNat + 2) (noted : Bool) :
    assemble (len :: rest ++ [v]) noted = some (completeFrame (len :: rest ++ [v]) noted) := by
  rw [List.cons_append, assemble, if_neg (by omega), if_pos (by simpa using full)]

section Receiver

variable {v : Byte} {parity framing noted : Bool} {got : List Byte}

theorem receive_mark (hunting : (s.port p).receiver = .hunting) :
    s.receiveCharacter p 0xA5 false false = s.modPort p fun x => { x with receiver := .assembling [] false } := by
  simp [State.receiveCharacter, hunting, Config.mark]

theorem receive_noise (hunting : (s.port p).receiver = .hunting) (noise : ¬ (v = 0xA5 ∧ parity = false ∧ framing = false)) :
    s.receiveCharacter p v parity framing = s := by
  simp only [State.receiveCharacter, hunting]
  exact if_neg (by simpa [Config.mark] using noise)

theorem receive_framing (assembling : (s.port p).receiver = .assembling got noted) :
    s.receiveCharacter p v parity true = s.endFrame p .framingError := by
  simp [State.receiveCharacter, assembling]

theorem receive_ends {e : FrameEnd} (assembling : (s.port p).receiver = .assembling got noted)
    (ends : assemble (got ++ [v]) (noted || parity) = some e) :
    s.receiveCharacter p v parity false = s.endFrame p e := by
  simp [State.receiveCharacter, assembling, ends]

theorem receive_goes_on (assembling : (s.port p).receiver = .assembling got noted)
    (goesOn : assemble (got ++ [v]) (noted || parity) = none) :
    s.receiveCharacter p v parity false
      = s.modPort p fun x => { x with receiver := .assembling (got ++ [v]) (noted || parity) } := by
  simp [State.receiveCharacter, assembling, goesOn]

end Receiver

/-- Settles O39: one equation of the receiver for each way a character goes, one for the bad endings. -/
theorem charactersAreAssembledIntoFrames : Obligations.CharactersAreAssembledIntoFrames := by
  refine ⟨fun p v parity framing s awake => ?characters, fun p s awake => ?endings⟩
  case characters =>
    intro x i becomes
    refine ⟨fun hunting => ?_, fun got noted assembling => ⟨fun broken => ?_, fun clean first outside => ?_,
      fun clean first two hundred => ?_, fun len rest started clean two hundred => ⟨fun short => ?_, fun full => ?_⟩⟩⟩
    · split
      · next mark =>
        obtain ⟨rfl, rfl, rfl⟩ := mark
        exact onlyPort_of rfl awake (receive_mark (s := s.begin) hunting) rfl
      · next noise => exact onlyPort_nothing rfl awake (receive_noise (s := s.begin) hunting noise)
    · subst broken
      exact onlyPort_of rfl awake ((receive_framing (s := s.begin) assembling).trans (endFrame_bad nofun)) rfl
    · subst clean first
      exact onlyPort_of rfl awake ((receive_ends (s := s.begin) assembling (assemble_bad_length outside _)).trans
        (endFrame_bad nofun)) rfl
    · subst clean first
      exact onlyPort_of rfl awake (receive_goes_on (s := s.begin) assembling
        (assemble_length two hundred _)) rfl
    · subst clean started
      exact onlyPort_of rfl awake (receive_goes_on (s := s.begin) assembling
        (assemble_goes_on two hundred short _)) rfl
    · subst clean started
      have ends := receive_ends (s := s.begin) (v := v) (parity := parity) assembling
        (assemble_completes two hundred full _)
      show Host.Outcome.next (s.operation _) = .next (s.operation _)
      rw [State.operation, if_neg awake, ends, State.operation, if_neg awake]
  case endings =>
    intro x becomes
    refine ⟨onlyPort_of rfl awake (endFrame_bad nofun) rfl, onlyPort_of rfl awake (endFrame_bad nofun) rfl,
      onlyPort_of rfl awake (endFrame_bad nofun) rfl, onlyPort_of rfl awake (endFrame_bad nofun) rfl,
      fun assembling => ?_, fun hunting => ?_⟩
    · refine onlyPort_of rfl awake (g := fun x => { x with receiver := .hunting, flags := { x.flags with gap := true } }) ?_ rfl
      obtain ⟨got, noted, e⟩ : ∃ got noted, (s.port p).receiver = .assembling got noted := by
        cases e : (s.port p).receiver with
        | hunting => exact absurd e assembling
        | assembling got noted => exact ⟨got, noted, rfl⟩
      simp [State.endGap, show (s.begin.port p).receiver = _ from e]
    · exact onlyPort_nothing rfl awake (by simp [State.endGap, show (s.begin.port p).receiver = _ from hunting])

/-! ## Good frames (R153, R154) -/

variable {f : Frame}

theorem endFrame_good (fits : f.payload.length ≤ 98) :
    s.endFrame p (.good f) = (s.modPort p fun x => { x with receiver := .hunting }).acceptFrame p f :=
  if_pos (show f.wellFormed = true from decide_eq_true fits)

theorem endFrame_overrun (fits : f.payload.length ≤ 98) (full : (s.port p).buffer ≠ none) :
    s.endFrame p (.good f)
      = s.modPort p fun x => { x with receiver := .hunting, flags := { x.flags with overrun := true } } := by
  rw [endFrame_good fits, State.acceptFrame,
    if_pos (by rw [modPort_port_self]; exact Option.isSome_iff_ne_none.mpr full), modPort_modPort]
  rfl

theorem endFrame_waits (fits : f.payload.length ≤ 98) (empty : (s.port p).buffer = none)
    (busy : (s.port p).slot ≠ none ∨ (s.port p).inProcess = true) :
    s.endFrame p (.good f) = s.modPort p fun x => { x with receiver := .hunting, buffer := some f } := by
  rw [endFrame_good fits, State.acceptFrame, if_neg (by simp [empty]), modPort_modPort]
  have waits : (s.port p).inProcess = true ∨ (s.port p).slot.isSome = true :=
    busy.symm.imp id Option.isSome_iff_ne_none.mpr
  simp [State.dispatch, Function.comp_def, waits]

/-- A good frame the dispatcher takes at once. -/
theorem endFrame_taken (fits : f.payload.length ≤ 98) (empty : (s.port p).buffer = none) (slot : (s.port p).slot = none)
    (idle : (s.port p).inProcess = false) :
    s.endFrame p (.good f)
      = (s.modPort p fun x => { x with receiver := .hunting, inProcess := true }).serve p f := by
  rw [endFrame_good fits, State.acceptFrame, if_neg (by simp [empty]), modPort_modPort]
  simp only [State.dispatch, modPort_port_self, Function.comp, idle, slot, Option.isSome_none, Bool.false_eq_true, or_self,
    if_false, modPort_modPort]
  congr 1
  refine modPort_congr _ _ ?_
  simp [← empty]

/-- A frame that the dispatcher takes and refuses. -/
theorem onlyPort_refused {o : ReplyCode} (awake : s.part ≠ .halted) (fits : f.payload.length ≤ 98)
    (empty : (s.port p).buffer = none) (slot : (s.port p).slot = none) (idle : (s.port p).inProcess = false)
    (refuses : ∀ u : State, u.inner = s.inner → u.serve p f = u.refuse ⟨p, f.code, f.tag⟩ o) :
    OnlyPort (.frameReceived p (.good f)) s p
      (({ s.port p with receiver := .hunting, inProcess := true } : Port).place (responseCode f.code) f.tag o []) := by
  refine onlyPort_of rfl awake (g := fun x => Port.place (responseCode f.code) f.tag o []
    { x with receiver := .hunting, inProcess := true }) ?_ rfl
  rw [endFrame_taken (s := s.begin) fits empty slot idle, refuses _ (by rw [modPort_inner, begin_inner]), State.refuse,
    State.respond, modPort_modPort]
  rfl

theorem serve_unknown {u : State} (unknown : RequestCode.ofByte f.code = none) :
    u.serve p f = u.refuse ⟨p, f.code, f.tag⟩ .deniedRole := by
  simp [State.serve, unknown]

theorem serve_not_allowed {u : State} {code : RequestCode} (known : RequestCode.ofByte f.code = some code)
    (barred : code.allowedOn p = false) : u.serve p f = u.refuse ⟨p, f.code, f.tag⟩ .deniedRole := by
  simp [State.serve, known, barred]

theorem serve_starting {u : State} {code : RequestCode} (known : RequestCode.ofByte f.code = some code)
    (allowed : code.allowedOn p = true) (starting : u.isStarting = true) :
    u.serve p f = u.refuse ⟨p, f.code, f.tag⟩ .busy := by
  simp [State.serve, known, allowed, starting]

theorem serve_unread {u : State} {code : RequestCode} (known : RequestCode.ofByte f.code = some code)
    (allowed : code.allowedOn p = true) (running : u.isStarting = false) (unread : parseRequest code f.payload = none) :
    u.serve p f = u.refuse ⟨p, f.code, f.tag⟩ .badForm := by
  simp [State.serve, known, allowed, running, unread]

theorem serve_foreign {u : State} {code : RequestCode} {r : Request} (known : RequestCode.ofByte f.code = some code)
    (allowed : code.allowedOn p = true) (running : u.isStarting = false) (read : parseRequest code f.payload = some r)
    (foreign : u.stationMay p r = false) : u.serve p f = u.refuse ⟨p, f.code, f.tag⟩ .deniedRole := by
  simp [State.serve, known, allowed, running, read, foreign]

theorem isStarting_of_inner {u v : State} (same : u.inner = v.inner) : u.isStarting = v.isStarting := by
  have part : u.inner.part = v.inner.part := congrArg State.part same
  change u.part = v.part at part
  simp [State.isStarting, part]

theorem stationMay_of_inner {u v : State} (same : u.inner = v.inner) (r : Request) : u.stationMay p r = v.stationMay p r := by
  have carousels : u.inner.carousels = v.inner.carousels := congrArg State.carousels same
  change u.carousels = v.carousels at carousels
  simp [State.stationMay, State.stationSends, State.carousel, carousels]

theorem isStarting_of_not_running (awake : s.part ≠ .halted) (away : s.part ≠ .running) : s.isStarting = true := by
  unfold State.isStarting
  cases e : s.part with
  | starting => rfl
  | halted => exact absurd e awake
  | running => exact absurd e away

/-- Settles O40: the buffer and the slot, then the checks of Table 9-1 in order. -/
theorem goodFramesWaitOrAreChecked : Obligations.GoodFramesWaitOrAreChecked := by
  refine ⟨fun p f s awake fits => ?waits, fun p f s awake fits => ?checks⟩
  case waits =>
    intro x becomes
    exact ⟨fun full => onlyPort_of rfl awake (endFrame_overrun (s := s.begin) fits full) rfl,
      fun empty busy => onlyPort_of rfl awake (endFrame_waits (s := s.begin) fits empty busy) rfl⟩
  case checks =>
    intro x empty slot idle refused
    have refuses {o : ReplyCode} (all : ∀ u : State, u.inner = s.inner → u.serve p f = u.refuse ⟨p, f.code, f.tag⟩ o) :
        refused o := by
      obtain ⟨t, runs, inner, port, others⟩ := onlyPort_refused awake fits empty slot idle all
      exact ⟨t, runs, inner, others, port⟩
    split
    · next unknown => exact refuses fun _ _ => serve_unknown unknown
    · next code known =>
      split
      · next barred => exact refuses fun _ _ => serve_not_allowed known barred
      · next allowed =>
        have allowed : code.allowedOn p = true := by simpa using allowed
        split
        · next away =>
          exact refuses fun _ same =>
            serve_starting known allowed ((isStarting_of_inner same).trans (isStarting_of_not_running awake away))
        · next running =>
          have running : s.isStarting = false := by simp [State.isStarting, not_not.mp running]
          split
          · next unread =>
            exact refuses fun _ same => serve_unread known allowed ((isStarting_of_inner same).trans running) unread
          · next r read =>
            intro c named other
            have foreign : s.stationMay p r = false := by
              simp only [State.stationMay, named, State.stationSends]
              exact decide_eq_false other
            exact refuses fun _ same => serve_foreign known allowed ((isStarting_of_inner same).trans running) read
              ((stationMay_of_inner same r).trans foreign)

/-! ## The transmitter (R156) -/

theorem dispatch_empty (empty : (s.port p).buffer = none) : s.dispatch p = s := by
  simp [State.dispatch, empty]

theorem dispatch_busy (busy : (s.port p).slot ≠ none ∨ (s.port p).inProcess = true) : s.dispatch p = s := by
  have busy : (s.port p).inProcess = true ∨ (s.port p).slot.isSome = true := busy.symm.imp id Option.isSome_iff_ne_none.mpr
  unfold State.dispatch
  split
  · rfl
  · exact if_pos busy

theorem dispatch_takes (waits : (s.port p).buffer = some f) (slot : (s.port p).slot = none)
    (idle : (s.port p).inProcess = false) :
    s.dispatch p = (s.modPort p fun x => { x with buffer := none, inProcess := true }).serve p f := by
  simp [State.dispatch, waits, slot, idle]

/-- The port once its transmitter is free and started what it has. -/
def Port.sentOn (x : Port) : Port := ({ x with sending := none } : Port).startNext

theorem finishFrame_eq (sends : (s.port p).sending ≠ none) (other : p ≠ stockPort ∨ s.sendingRestart = false) :
    s.finishFrame p = (s.modPort p Port.sentOn).dispatch p := by
  rw [State.finishFrame, if_neg (by simpa using sends), if_neg, State.sendOn, modPort_modPort]
  · rfl
  · rcases other with e | e <;> simp [e]

/-- With no frame waiting, HOLD_INPUT reads the level and lets a free transmitter start. -/
theorem holdInput_runs (awake : s.part ≠ .halted) (empty : (s.port p).buffer = none) (on : Bool) :
    exec (.holdInput p on) s
      = .next ((s.modPort p fun x => { x with held := on }).begin.modPort p Port.startNext) := by
  show Host.Outcome.next (State.operation _ _) = _
  have stays : (s.setHoldLevel p on).begin.sendOn p = (s.setHoldLevel p on).begin.modPort p Port.startNext := by
    refine dispatch_empty ?_
    rw [modPort_port_self, (startNext_buffer _).1]
    show ((s.setHoldLevel p on).port p).buffer = none
    rw [State.setHoldLevel, modPort_port_self]; exact empty
  rw [State.operation, if_neg (show (s.setHoldLevel p on).part ≠ .halted from awake), stays, settle_of_nothing_due _ rfl]
  rfl

/-- Settles O43: what FRAME_SENT and HOLD_INPUT start, and the waiting frame that is then taken. -/
theorem frameSentAndHoldInputDriveTheTransmitter : Obligations.FrameSentAndHoldInputDriveTheTransmitter := by
  refine ⟨fun p s awake => ?sent, fun p s empty => ?held⟩
  case sent =>
    intro x next becomes
    have buffer : next.buffer = x.buffer ∧ next.inProcess = x.inProcess := startNext_buffer _
    refine ⟨fun none => ?_, fun sends other => ⟨fun waits => ?_, fun f waits slot idle => ?_⟩⟩
    · exact onlyPort_nothing rfl awake (if_pos (by rw [show (s.begin.port p).sending = Option.none from none]; rfl))
    · have work := finishFrame_eq (s := s.begin) sends other
      have stays : (s.begin.modPort p Port.sentOn).dispatch p = s.begin.modPort p Port.sentOn := by
        rcases waits with empty | slot | process
        · exact dispatch_empty (by rw [modPort_port_self]; exact buffer.1.trans empty)
        · exact dispatch_busy (.inl (by rw [modPort_port_self]; exact slot))
        · exact dispatch_busy (.inr (by rw [modPort_port_self]; exact buffer.2.trans process))
      exact onlyPort_of rfl awake (work.trans stays) rfl
    · have work := finishFrame_eq (s := s.begin) sends other
      rw [dispatch_takes (by rw [modPort_port_self]; exact buffer.1.trans waits) (by rw [modPort_port_self]; exact slot)
        (by rw [modPort_port_self]; exact buffer.2.trans idle), modPort_modPort] at work
      show Host.Outcome.next (s.operation _) = _
      rw [State.operation, if_neg awake, work]
      refine congrArg (fun u : State => Host.Outcome.next (u.serve p f).settle) (modPort_congr _ _ ?_)
      rfl
  case held =>
    intro becomes
    have sends (awake : s.part ≠ .halted) (on : Bool) : becomes on ({ s.port p with held := on } : Port).startNext := by
      refine ⟨_, holdInput_runs awake empty on, ?_, ?_, fun q other => ?_⟩
      · rw [modPort_inner, begin_inner, modPort_inner]
      · rw [modPort_port_self, begin_port, modPort_port_self]
      · have other : p ≠ q := fun e => other (by simp [e])
        rw [modPort_port_ne _ _ other, begin_port, modPort_port_ne _ _ other]
    refine ⟨fun awake => ⟨?_, sends awake false⟩, fun halted on => ?_⟩
    · have held := sends awake true
      rwa [startNext_busy (.inr rfl)] at held
    · refine ⟨s.setHoldLevel p on, ?_, by rw [State.setHoldLevel, modPort_inner], ?_, fun q other => ?_⟩
      · show Host.Outcome.next (State.operation _ _) = _
        rw [State.operation, if_pos (show (s.setHoldLevel p on).part = .halted from halted)]
      · exact modPort_port_self ..
      · exact modPort_port_ne _ _ fun e => other (by simp [e])

/-! ## A frame on the line (R150, R151) -/

/-- The receiver of a port with the characters it has. -/
def State.receiving (s : State) (p : PortId) (got : List Byte) : State :=
  s.begin.modPort p fun x => { x with receiver := .assembling got false }

theorem receiving_receiver (got : List Byte) :
    ((s.receiving p got).begin.port p).receiver = .assembling got false := by
  show ((s.receiving p got).port p).receiver = _
  rw [State.receiving, modPort_port_self]

/-- Where a frame ends the receiver's characters no longer count. -/
theorem endFrame_receiver (r : Receiver) (e : FrameEnd) :
    (s.modPort p fun x => { x with receiver := r }).endFrame p e = s.endFrame p e := by
  simp only [State.endFrame, modPort_modPort]
  rfl

theorem character_starts (awake : s.part ≠ .halted) (hunting : (s.port p).receiver = .hunting) :
    exec (.characterReceived p 0xA5 false false) s = .next (s.receiving p []) := by
  show Host.Outcome.next (s.operation _) = _
  rw [State.operation, if_neg awake, receive_mark (s := s.begin) hunting, settle_of_nothing_due _ rfl]
  rfl

theorem character_goes_on {got : List Byte} {v : Byte} (awake : s.part ≠ .halted)
    (goesOn : assemble (got ++ [v]) false = none) :
    exec (.characterReceived p v false false) (s.receiving p got) = .next (s.receiving p (got ++ [v])) := by
  show Host.Outcome.next (State.operation _ _) = _
  rw [State.operation, if_neg (show (s.receiving p got).part ≠ .halted from awake),
    receive_goes_on (receiving_receiver got) goesOn, settle_of_nothing_due _ rfl]
  refine congrArg Host.Outcome.next ?_
  rw [State.receiving, begin_modPort, begin_begin, modPort_modPort, State.receiving]
  rfl

theorem character_ends {got : List Byte} {v : Byte} {e : FrameEnd} (awake : s.part ≠ .halted)
    (ends : assemble (got ++ [v]) false = some e) :
    exec (.characterReceived p v false false) (s.receiving p got) = .next (s.begin.endFrame p e).settle := by
  show Host.Outcome.next (State.operation _ _) = _
  rw [State.operation, if_neg (show (s.receiving p got).part ≠ .halted from awake),
    receive_ends (receiving_receiver got) ends]
  exact congrArg (fun u : State => Host.Outcome.next u.settle) (endFrame_receiver (s := s.begin) ..)

/-- The bytes of a frame after its mark. -/
def afterMark (f : Frame) : List Byte := f.covered ++ bytesOf 2 (crc f.covered).toNat

theorem afterMark_length (f : Frame) : (afterMark f).length = f.payload.length + 5 := by
  simp [afterMark, Frame.covered]

theorem lengthByte_toNat (fits : f.payload.length ≤ 98) :
    (BitVec.ofNat 8 (f.payload.length + 2)).toNat = f.payload.length + 2 := by
  simp; omega

/-- Before its last character a frame goes on. -/
theorem assemble_prefix (fits : f.payload.length ≤ 98) {got todo : List Byte} (split : got ++ todo = (afterMark f))
    (some : got ≠ []) (left : todo ≠ []) : assemble got false = none := by
  obtain ⟨len, rest, rfl⟩ := List.exists_cons_of_ne_nil some
  obtain rfl : len = BitVec.ofNat 8 (f.payload.length + 2) := (List.cons.inj split).1
  have short : (BitVec.ofNat 8 (f.payload.length + 2) :: rest).length < (afterMark f).length := by
    have := List.length_pos_of_ne_nil left
    rw [← split, List.length_append]; omega
  rw [afterMark_length, List.length_cons] at short
  rw [assemble, lengthByte_toNat fits, if_neg (by omega), if_neg (by omega)]

theorem completeFrame_afterMark (f : Frame) : completeFrame (afterMark f) false = .good f := by
  have covered : (afterMark f).take ((afterMark f).length - 2) = f.covered := by
    simp [afterMark]
  have sum : (afterMark f).drop ((afterMark f).length - 2) = bytesOf 2 (crc f.covered).toNat := by
    simp [afterMark]
  have same : natOf (bytesOf 2 (crc f.covered).toNat) = (crc f.covered).toNat :=
    natOf_bytesOf (crc f.covered).isLt
  simp only [completeFrame, covered, sum, same, Bool.false_eq_true, if_false, ne_eq, not_true_eq_false]
  rfl

theorem assemble_whole (fits : f.payload.length ≤ 98) : assemble (afterMark f) false = some (.good f) := by
  rw [← completeFrame_afterMark f]
  have length := afterMark_length f
  rw [afterMark, Frame.covered, List.cons_append] at length ⊢
  rw [assemble, lengthByte_toNat fits, if_neg (by omega), if_pos (by rw [List.length_cons] at length; omega)]

theorem execAll_cons {i : Instr} {rest : List Instr} {t : State} (runs : exec i s = .next t) :
    execAll (i :: rest) s = execAll rest t := by
  simp only [execAll, runs]

/-- The rest of a frame's characters end it good. -/
theorem characters_end (awake : s.part ≠ .halted) (fits : f.payload.length ≤ 98) (todo : List Byte) {got : List Byte}
    (split : got ++ todo = (afterMark f)) (left : todo ≠ []) :
    execAll (characters p todo) (s.receiving p got) = .next (s.begin.endFrame p (.good f)).settle := by
  induction todo generalizing got with
  | nil => exact absurd rfl left
  | cons v rest ih =>
    have split' : (got ++ [v]) ++ rest = (afterMark f) := by rw [List.append_assoc]; exact split
    by_cases last : rest = []
    · subst last
      have ends := character_ends (s := s) (p := p) (got := got) (v := v) awake
        (by rw [← List.append_nil (got ++ [v]), split']; exact assemble_whole fits)
      exact execAll_cons ends
    · have goesOn := character_goes_on (s := s) (p := p) (v := v) awake (assemble_prefix fits split' (by simp) last)
      exact (execAll_cons goesOn).trans (ih split' last)

/-- A halted part hears no character. -/
theorem characters_halted (halted : s.part = .halted) (bytes : List Byte) : execAll (characters p bytes) s = .next s := by
  have deaf (v : Byte) : exec (.characterReceived p v false false) s = .next s := by
    show Host.Outcome.next (s.operation _) = _
    rw [State.operation, if_pos halted]
  induction bytes with
  | nil => rfl
  | cons v rest ih =>
    exact (execAll_cons (deaf v)).trans ih

/-- The payload of a well-formed request fits a frame (R150). -/
theorem request_fits {i : Instr} {h : Header} {code : RequestCode} {payload : List Byte} (wf : i.wellFormed = true)
    (e : i.request? = some (h, code, payload)) : payload.length ≤ 98 := by
  cases i with
  | orderLines h l f ls => exact (Laws.Carried.orderLines h l f ls _ _ _ e).2 wf
  | _ => cases e <;> exact Nat.le_of_ble_eq_true rfl

/-- Settles O38: the mark starts the frame, each character but the last goes on with it and the last ends it good. -/
theorem wireFormsTheFrame : Obligations.WireFormsTheFrame := by
  intro i h code payload s wf request hunting
  have fits := request_fits wf request
  rw [exec_of_request? request]
  by_cases halted : s.part = .halted
  · rw [characters_halted halted, State.request, State.operation, if_pos halted]
  · have starts := character_starts halted hunting
    have wire : Frame.wire ⟨code.byte, h.tag, payload⟩ = 0xA5 :: afterMark ⟨code.byte, h.tag, payload⟩ := rfl
    rw [wire, State.request, State.operation, if_neg halted]
    exact (execAll_cons starts).trans
      (characters_end halted fits _ (List.nil_append _) (by simp [afterMark, Frame.covered]))

end Links

end Sys2Proof.Machine

/-! CONFIGURE (Table 10-3), the warm restart (R163, R164) and power-on (R162). -/

namespace Sys2Proof

open Machine (byteOf itemCode)

/-- Check 1 of Table 10-3: an item's code and index name it. -/
theorem item?_itemCode (item : ConfigItem) :
    item? (byteOf (itemCode item).1) (byteOf (itemCode item).2) = some item := by
  have profile (p : ProfileId) : index? 4 (byteOf p.val) = some p := index?_byteOf (by omega) p
  cases item with
  | baseTime p => exact congrArg (Option.map _) (profile p)
  | stepTime p => exact congrArg (Option.map _) (profile p)
  | permits => rfl
  | laneCapacity => rfl
  | orderOpenTime => rfl
  | shortPickMode => rfl
  | _ c => exact congrArg (Option.map _) (index?_carousel c)

namespace Machine

section Configure

variable {s : State} {h : Header} {rt : ReplyTo} {item : ConfigItem} {v : Nat} {c : CarouselId}

theorem admitted_configure (ready : s.readyFor h.port) (stock : h.port = stockPort) (i x : Byte) (v : BitVec 32) :
    Admitted s (.configure h i x v) h .configure ([i, x] ++ field 4 v) :=
  admitted_stock ready stock rfl (Nat.le_of_ble_eq_true rfl) rfl

theorem parse_item (item : ConfigItem) (v : BitVec 32) :
    parseRequest .configure ([byteOf (itemCode item).1, byteOf (itemCode item).2] ++ field 4 v)
      = some (.configure item v.toNat) :=
  parse_configure _ _ v item (item?_itemCode item)

/-! ## The checks -/

theorem takeConfigure_range (out : itemInRange v item = false) : s.takeConfigure rt item v = s.refuse rt .badRange := by
  simp [State.takeConfigure, out]

theorem takeConfigure_inService (range : itemInRange v item = true) (busy : s.itemIdle item = false) :
    s.takeConfigure rt item v = s.refuse rt .wrongState := by
  simp [State.takeConfigure, range, busy]

theorem takeConfigure_stock (range : itemInRange v item = true) (idle : s.itemIdle item = true)
    (stock : s.itemBare item = false) : s.takeConfigure rt item v = s.refuse rt .wrongState := by
  simp [State.takeConfigure, range, idle, stock]

theorem takeConfigure_fits (range : itemInRange v item = true) (idle : s.itemIdle item = true)
    (bare : s.itemBare item = true) (misfit : s.itemFits v item = false) :
    s.takeConfigure rt item v = s.refuse rt .badRange := by
  simp [State.takeConfigure, range, idle, bare, misfit]

theorem takeConfigure_busy (range : itemInRange v item = true) (idle : s.itemIdle item = true)
    (bare : s.itemBare item = true) (fits : s.itemFits v item = true) (busy : s.itemBusy item = true) :
    s.takeConfigure rt item v = s.refuse rt .busy := by
  simp [State.takeConfigure, range, idle, bare, fits, busy]

theorem takeConfigure_writes (range : itemInRange v item = true) (idle : s.itemIdle item = true)
    (bare : s.itemBare item = true) (fits : s.itemFits v item = true) (free : s.itemBusy item = false) :
    s.takeConfigure rt item v = (s.writeItem v item).respond rt .done [] := by
  simp [State.takeConfigure, range, idle, bare, fits, free]

theorem itemIdle_of_carousel (own : itemCarousel? item = some c) :
    s.itemIdle item = true ↔ (s.motion c).state ∈ [.offline, .withdrawn] := by
  rw [State.itemIdle, own]
  simpa using outOfService_iff _

theorem not_bare_of_stock {x : Carousel} {k : CarrierId} {b : BayId}
    (stock : (look (look x.carriers k).bays b).lot ≠ none ∨ (look (look x.carriers k).bays b).disputed = true) :
    x.bare = false := by
  rw [Bool.eq_false_iff]
  intro bare
  simp only [Carousel.bare, Vector.all_eq_true, Bool.and_eq_true, Option.isNone_iff_eq_none, Bool.not_eq_true'] at bare
  have empty := bare k.val k.isLt b.val b.isLt
  rcases stock with lot | disputed
  · exact lot empty.1
  · exact absurd (empty.2.symm.trans disputed) (by decide)

theorem not_fitsHeight_of_stack {x : Carousel} {k : CarrierId} {b : BayId} {lot : Lot}
    (assigned : (look (look x.carriers k).bays b).lot = some lot)
    (high : stackLimit v lot.width < (look (look x.carriers k).bays b).count + (look (look x.carriers k).bays b).incoming) :
    x.fitsHeight v = false := by
  rw [Bool.eq_false_iff]
  intro fits
  simp only [Carousel.fitsHeight, Vector.all_eq_true] at fits
  have low := fits k.val k.isLt b.val b.isLt
  have assigned' : ((x.carriers[k.val]).bays[b.val]).lot = some lot := assigned
  simp only [assigned', decide_eq_true_eq] at low
  exact absurd high (not_lt.mpr low)

theorem permitsHeld_pos (c : CarouselId) (held : (s.motion c).state.holdsPermit = true) : s.permitsHeld ≠ 0 := by
  have member : c ∈ carouselIds.filter fun c => (s.motion c).state.holdsPermit :=
    List.mem_filter.mpr ⟨List.mem_finRange c, held⟩
  exact fun none => by simp [List.length_eq_zero_iff.mp none] at member

theorem profileBusy_of_turning (c : CarouselId) (held : (s.motion c).state.holdsPermit = true) :
    s.profileBusy (s.carousel c).cfg.profile = true :=
  List.any_eq_true.mpr ⟨c, List.mem_finRange c, by simp [held]⟩

theorem lanesIn_free_ne {l : LaneId} (taken : (s.lane l).state ≠ .free) : s.lanesIn .free ≠ 32 := by
  have short : ((List.finRange 32).filter fun l => decide ((s.lane l).state = .free)).length < (List.finRange 32).length :=
    List.length_filter_lt_length_iff_exists.mpr ⟨l, List.mem_finRange l, by simpa using taken⟩
  rw [List.length_finRange] at short
  exact short.ne

/-- Settles O45: each check refuses where those before it pass. -/
theorem configureIsCheckedInOrder : Obligations.ConfigureIsCheckedInOrder := by
  intro h item v s ready stock i
  have admitted := admitted_configure ready stock (byteOf (itemCode item).1) (byteOf (itemCode item).2) v
  have read := parse_item item v
  have refuses {o : ReplyCode} (block : (s.accepted h.port).takeConfigure ⟨h.port, RequestCode.configure.byte, h.tag⟩ item
      v.toNat = (s.accepted h.port).refuse ⟨h.port, RequestCode.configure.byte, h.tag⟩ o) :
      Completes i s h .configure o [] [] s :=
    admitted.completes_of_take_refuse read rfl block
  refine ⟨fun out => refuses (takeConfigure_range out), fun range => ⟨fun c own away => ?service, fun lanes taken => ?lanes,
    fun c k b count out full => ?stock, fun c k b lot height out assigned high => ?height, fun c put out above => ?put,
    fun c hard out below => ?hard, fun c turning governed => ?busy⟩⟩
  case service =>
    exact refuses (takeConfigure_inService range
      (Bool.eq_false_iff.mpr fun idle => away ((itemIdle_of_carousel (s := s.accepted h.port) own).mp idle)))
  case lanes =>
    obtain ⟨l, taken⟩ := taken
    subst lanes
    refine refuses (takeConfigure_inService range ?_)
    have busy := lanesIn_free_ne (s := s.accepted h.port) taken
    simp [State.itemIdle, itemCarousel?, busy]
  case stock =>
    subst count
    exact refuses (takeConfigure_stock range ((itemIdle_of_carousel (s := s.accepted h.port) rfl).mpr out)
      (not_bare_of_stock (x := (s.accepted h.port).carousel c) full))
  case height =>
    subst height
    exact refuses (takeConfigure_fits range ((itemIdle_of_carousel (s := s.accepted h.port) rfl).mpr out) rfl
      (not_fitsHeight_of_stack (x := (s.accepted h.port).carousel c) assigned high))
  case put =>
    subst put
    exact refuses (takeConfigure_fits range ((itemIdle_of_carousel (s := s.accepted h.port) rfl).mpr out) rfl
      (decide_eq_false (not_le.mpr above)))
  case hard =>
    subst hard
    exact refuses (takeConfigure_fits range ((itemIdle_of_carousel (s := s.accepted h.port) rfl).mpr out) rfl
      (decide_eq_false (not_le.mpr below)))
  case busy =>
    have held : ((s.accepted h.port).motion c).state.holdsPermit = true := by
      rw [holdsPermit_iff]; simpa using turning
    rcases governed with rfl | rfl | rfl
    · exact refuses (takeConfigure_busy range rfl rfl rfl (decide_eq_true (permitsHeld_pos c held)))
    · exact refuses (takeConfigure_busy range rfl rfl rfl (profileBusy_of_turning c held))
    · exact refuses (takeConfigure_busy range rfl rfl rfl (profileBusy_of_turning c held))

/-! ## The item written (R160, R161) -/

/-- The OVERWEIGHT test changes the flag. -/
def Carousel.testFlips (x : Carousel) : Bool := x.overweightNow != x.balance.overweight

theorem testOverweight_due (s : State) (c : CarouselId) :
    (s.testOverweight c).due = { s.due with select := s.due.select || (s.carousel c).testFlips,
                                            unhold := s.due.unhold || (s.carousel c).testFlips } := by
  unfold State.testOverweight Carousel.testFlips
  dsimp only
  split
  · next same => simp [same]
  · next other => simp [other, State.dueUnhold, State.dueSelect]

theorem testOverweight_postsTo (s : State) (c : CarouselId) (q : PortId) :
    (s.testOverweight c).port q
      = postsTo (if (s.carousel c).testFlips = true then
          [(stockPort, .carousel c (s.motion c).state (s.motion c).fault (s.motion c).hold (s.carousel c).overweightNow
            (s.carousel c).balance.peak)] else []) q (s.port q) := by
  rw [testOverweight_port]
  by_cases same : (s.carousel c).overweightNow = (s.carousel c).balance.overweight
  · simp [Carousel.testFlips, same]
  · simp [Carousel.testFlips, same, postsTo_cons]

/-- A taken CONFIGURE that writes items of one carousel and tests OVERWEIGHT. -/
theorem Admitted.completesThen_of_take_testOverweight {i : Instr} {code : RequestCode} {payload : List Byte} {r : Request}
    {f u : Carousel → Carousel} (a : Admitted s i h code payload) (read : parseRequest code payload = some r)
    (may : s.stationMay h.port r = true)
    (answers : (s.accepted h.port).take ⟨h.port, code.byte, h.tag⟩ r
      = (((s.accepted h.port).modCarousel c f).testOverweight c).respond ⟨h.port, code.byte, h.tag⟩ .done [])
    (motion : (f (s.carousel c)).motion = (s.carousel c).motion)
    (flag : (f (s.carousel c)).balance.overweight = (s.carousel c).balance.overweight)
    (tested : ∀ x, { f x with balance := { (f x).balance with overweight := (f x).overweightNow } } = u x) :
    CompletesThen i s h code .done []
      (if ((u (s.carousel c)).balance.overweight != (s.carousel c).balance.overweight) = true then
        [(stockPort, .carousel c (u (s.carousel c)).motion.state (u (s.carousel c)).motion.fault
          (u (s.carousel c)).motion.hold (u (s.carousel c)).balance.overweight (u (s.carousel c)).balance.peak)] else [])
      { select := (u (s.carousel c)).balance.overweight != (s.carousel c).balance.overweight,
        unhold := (u (s.carousel c)).balance.overweight != (s.carousel c).balance.overweight } (s.modCarousel c u) := by
  have flips : (f (s.carousel c)).testFlips
      = ((u (s.carousel c)).balance.overweight != (s.carousel c).balance.overweight) := by
    rw [Carousel.testFlips, ← tested, flag]
  refine a.completesThen_of_take_respond _ read may answers ?_ ?_ fun q => ?_
  · rw [testOverweight_due, modCarousel_carousel_self, accepted_carousel, flips, modCarousel_due, accepted_due]
    simp
  · rw [testOverweight_inner, modCarousel_inner, accepted_inner, modCarousel_modCarousel, modCarousel_inner]
    exact congrArg (s.inner.modCarousel c) (funext tested)
  · rw [testOverweight_postsTo, State.motion, modCarousel_carousel_self, accepted_carousel, flips, modCarousel_port,
      ← tested, motion]

theorem inRange_lt (range : itemInRange v item = true) : v < 2 ^ 32 := by
  have bound : v ≤ 160000 ∨ v ≤ 6000 := by
    cases item <;> simp only [itemInRange, Bool.and_eq_true, Bool.or_eq_true, decide_eq_true_eq] at range <;> omega
  omega

/-- Settles O44, item by item. -/
theorem configureWritesOneItem : Obligations.ConfigureWritesOneItem := by
  intro h item v s ready stock range idle fits free i cfg profile
  have admitted := admitted_configure ready stock (byteOf (itemCode item).1) (byteOf (itemCode item).2) (BitVec.ofNat 32 v)
  have read := parse_item item (BitVec.ofNat 32 v)
  rw [BitVec.toNat_ofNat, Nat.mod_eq_of_lt (inRange_lt range)] at read
  have writes (bare : (s.accepted h.port).itemBare item = true) :
      (s.accepted h.port).take ⟨h.port, RequestCode.configure.byte, h.tag⟩ (.configure item v)
        = ((s.accepted h.port).writeItem v item).respond ⟨h.port, RequestCode.configure.byte, h.tag⟩ .done [] :=
    takeConfigure_writes (s := s.accepted h.port) range idle bare fits free
  cases item with
  | bayHeight c => exact admitted.completes_of_take_respond _ read rfl (writes rfl) rfl rfl fun _ => rfl
  | payloadLimit c => exact admitted.completes_of_take_respond _ read rfl (writes rfl) rfl rfl fun _ => rfl
  | putLimit c => exact admitted.completes_of_take_respond _ read rfl (writes rfl) rfl rfl fun _ => rfl
  | timingProfile c =>
    intro p e
    have same : Fin.ofNat 4 v = p := by rw [← e]; exact Fin.ofNat_val_eq_self p
    exact admitted.completes_of_take_respond _ read rfl (writes rfl) rfl (by rw [State.writeItem, same]; rfl) fun _ => rfl
  | station c =>
    refine ⟨fun st e => ?_, fun e => ?_⟩
    · have same : stationOf v = some st := by
        rw [stationOf, if_neg (by omega), ← e]; exact congrArg some (Fin.ofNat_val_eq_self st)
      exact admitted.completes_of_take_respond _ read rfl (writes rfl) rfl (by rw [State.writeItem, same]; rfl) fun _ => rfl
    · have same : stationOf v = none := if_pos e
      exact admitted.completes_of_take_respond _ read rfl (writes rfl) rfl (by rw [State.writeItem, same]; rfl) fun _ => rfl
  | baseTime p => exact admitted.completes_of_take_respond _ read rfl (writes rfl) rfl rfl fun _ => rfl
  | stepTime p => exact admitted.completes_of_take_respond _ read rfl (writes rfl) rfl rfl fun _ => rfl
  | permits => exact admitted.completesThen_of_take_respond _ read rfl (writes rfl) rfl rfl fun _ => rfl
  | laneCapacity => exact admitted.completes_of_take_respond _ read rfl (writes rfl) rfl rfl fun _ => rfl
  | orderOpenTime => exact admitted.completes_of_take_respond _ read rfl (writes rfl) rfl rfl fun _ => rfl
  | shortPickMode => exact admitted.completes_of_take_respond _ read rfl (writes rfl) rfl rfl fun _ => rfl
  | carrierCount c =>
    intro bare u y flips
    have block := writes bare
    rw [State.writeItem, State.setCarrierCount, State.modCfg, modCarousel_modCarousel] at block
    exact admitted.completesThen_of_take_testOverweight read rfl block rfl rfl fun x => rfl
  | hardLimit c =>
    intro _ u y flips
    exact admitted.completesThen_of_take_testOverweight read rfl (writes rfl) rfl rfl fun x => rfl

end Configure

end Machine

end Sys2Proof

/-! The warm restart (R163, R164) and power-on (R162). -/

namespace Sys2Proof.Machine

section Restart

variable {s : State} {h : Header} {cause : StartCause} {p : PortId}

theorem begin_warmRestart : s.begin.warmRestart cause = s.warmRestart cause := rfl

theorem leaveStarting_waits {before : Vector Bool 6} (starting : s.part = .starting before) (asserted : s.restartAsserted = true) :
    s.leaveStarting = s := by
  simp [State.leaveStarting, starting, asserted]

theorem leaveStarting_leaves {before : Vector Bool 6} (starting : s.part = .starting before)
    (released : s.restartAsserted = false) : s.leaveStarting = State.startNotices before { s with part := .running } := by
  simp [State.leaveStarting, starting, released]

theorem foldl_postCarousel_keeps (l : List CarouselId) :
    (l.foldl State.postCarousel s).inner = s.inner ∧ (l.foldl State.postCarousel s).due = s.due := by
  induction l generalizing s with
  | nil => exact ⟨rfl, rfl⟩
  | cons c rest ih =>
    obtain ⟨inner, due⟩ := ih (s := s.postCarousel c)
    exact ⟨inner.trans (postCarousel_inner s c), due.trans (postCarousel_due s c)⟩

/-- CAROUSEL notices one after another. -/
theorem foldl_postCarousel_port (l : List CarouselId) (q : PortId) :
    (l.foldl State.postCarousel s).port q
      = postsTo (l.map fun c => (stockPort, carouselNotice c (s.carousel c))) q (s.port q) := by
  induction l generalizing s with
  | nil => rfl
  | cons c rest ih =>
    rw [List.foldl_cons, ih, postCarousel_eq, post_postsTo, ← postsTo_append, List.map_cons]
    rfl

theorem startNotices_inner (before : Vector Bool 6) : (State.startNotices before s).inner = s.inner :=
  (foldl_postCarousel_keeps _).1

theorem startNotices_due (before : Vector Bool 6) : (State.startNotices before s).due = s.due :=
  (foldl_postCarousel_keeps _).2

/-- A restart makes nothing due. -/
theorem restart_due : (s.restart cause).due = {} := by
  by_cases asserted : s.restartAsserted = true
  · rw [State.restart, leaveStarting_waits (s := s.warmRestart cause) (before := s.overweightBefore) rfl asserted]; rfl
  · rw [State.restart, leaveStarting_leaves (s := s.warmRestart cause) (before := s.overweightBefore) rfl (Bool.eq_false_iff.mpr asserted),
      startNotices_due]; rfl

/-- Where the RESTART response is being sent, the restart is all that happens. -/
theorem restart_operation (awake : s.part ≠ .halted) {f : State → State} (work : f s.begin = s.begin.restart cause) :
    s.operation f = s.restart cause := by
  rw [State.operation, if_neg awake, work, settle_of_nothing_due _ restart_due, State.restart, begin_warmRestart,
    State.restart]

/-- Settles O46: RESTART is only answered; the end of its response and the restart input restart the part, which leaves
STARTING where the input is not asserted. -/
theorem restartsBeginAndEnd : Obligations.RestartsBeginAndEnd := by
  refine ⟨fun h s ready stock => ⟨?restart, fun sending => ⟨?warm, ?sent⟩, fun quiet => ?quiet, fun cause =>
    ⟨fun asserted => ?asserted, fun released => ?released⟩⟩, fun s => ⟨fun awake => ⟨?input, fun running => ?before⟩,
    fun before starting => ?leaves, fun running => ?runs⟩⟩
  case restart =>
    exact Admitted.completes_of_take_answer (code := .restart)
      (admitted_stock ready stock rfl (Nat.le_of_ble_eq_true rfl) rfl) (r := .restart) rfl rfl rfl
  case warm =>
    have awake : s.part ≠ .halted := by rw [ready.1]; exact nofun
    exact congrArg Host.Outcome.next (restart_operation awake (if_pos (show s.begin.sendingRestart = true from sending)))
  case sent =>
    have awake : s.part ≠ .halted := by rw [ready.1]; exact nofun
    have warm := restart_operation (s := s) awake (f := fun x => if x.sendingRestart then x.restart .restartRequest else x)
      (if_pos (show s.begin.sendingRestart = true from sending))
    have busy : (s.port stockPort).sending ≠ none := fun none => by
      simp [State.sendingRestart, none] at sending
    have sent := restart_operation (s := s) awake (f := fun x => x.finishFrame stockPort) (cause := .restartRequest) (by
      rw [State.finishFrame, if_neg (by simpa [begin_port] using busy)]
      exact if_pos ⟨rfl, sending⟩)
    exact congrArg Host.Outcome.next (sent.trans warm.symm)
  case quiet =>
    have awake : s.part ≠ .halted := by rw [ready.1]; exact nofun
    refine ⟨s.begin, ?_, rfl, rfl⟩
    show Host.Outcome.next (State.operation _ s) = _
    rw [State.operation, if_neg awake, if_neg (show ¬ s.begin.sendingRestart = true by
      rw [show s.begin.sendingRestart = s.sendingRestart from rfl, quiet]; decide), settle_of_nothing_due _ rfl]
  case asserted => exact leaveStarting_waits (s := s.warmRestart cause) (before := s.overweightBefore) rfl asserted
  case released =>
    rw [State.restart, leaveStarting_leaves (s := s.warmRestart cause) (before := s.overweightBefore) rfl released, startNotices_inner]
  case input =>
    refine congrArg Host.Outcome.next ?_
    rw [State.assertRestart, if_neg awake, State.restart,
      leaveStarting_waits (before := ({ s with restartAsserted := true } : State).overweightBefore) rfl rfl]
    rfl
  case before =>
    show PartState.starting s.overweightBefore = _
    rw [State.overweightBefore, running]
  case leaves =>
    intro notices
    have leaves : s.releaseRestart = State.startNotices before { s with part := .running, restartAsserted := false } :=
      leaveStarting_leaves (s := { s with restartAsserted := false }) starting rfl
    refine ⟨_, congrArg Host.Outcome.next leaves, startNotices_inner before, fun q => ?_⟩
    rw [State.startNotices, foldl_postCarousel_port]
    rfl
  case runs =>
    refine ⟨{ s with restartAsserted := false }, congrArg Host.Outcome.next ?_, rfl, fun _ => rfl⟩
    rw [State.releaseRestart, State.leaveStarting]
    simp only [running]

/-! ## What a warm restart leaves (R164) -/

theorem settleEmpty_restarted (b : Bay) :
    b.restarted = { lot := if b.count = 0 then none else b.lot, count := b.count, reserved := 0, incoming := 0,
                    auditHold := false, disputed := b.disputed } := by
  by_cases empty : b.count = 0 <;> simp [Bay.restarted, Bay.settleEmpty, empty]

theorem warmRestart_carousel (c : CarouselId) : (s.warmRestart cause).carousel c = (s.carousel c).restarted :=
  look_map s.carousels _ c

theorem restarted_carriers (x : Carousel) : x.restarted.carriers = x.carriers.map Carrier.restarted := rfl

/-- The entry worked from its definition is the sum R24 gives. -/
theorem definedEntry_eq {n : Nat} (carriers : Vector Carrier 40) {k : Fin 20} (inside : k.val < n / 2) :
    definedEntry n carriers k = profileAt n carriers k.val := by
  have fold (l : List (Fin 40)) (a : Int) :
      l.foldl (fun acc (c : Fin 40) =>
        if c.val < n then
          if onFront n k.val c.val then acc + ((look carriers c).payload : Int) else acc - ((look carriers c).payload : Int)
        else acc) a
      = a + (2 * (l.map fun c => if (c.val < n && onFront n k.val c.val) = true then ((look carriers c).payload : Int) else 0).sum
        - (l.map fun c => if decide (c.val < n) = true then ((look carriers c).payload : Int) else 0).sum) := by
    induction l generalizing a with
    | nil => simp
    | cons c rest ih =>
      rw [List.foldl_cons, ih, List.map_cons, List.map_cons, List.sum_cons, List.sum_cons]
      by_cases inUse : c.val < n
      · by_cases front : onFront n k.val c.val = true <;> simp [inUse, front] <;> ring
      · simp [inUse]
  rw [definedEntry, if_pos inside, fold, zero_add]
  rfl

theorem rebuild_entries {n : Nat} (carriers : Vector Carrier 40) (b : Balance) (k : Fin 20) (inside : k.val < n / 2) :
    look (b.rebuild n carriers).entries k = profileAt n carriers k.val := by
  show look (Vector.ofFn (definedEntry n carriers)) k = _
  rw [look_ofFn, definedEntry_eq carriers inside]

theorem restarted_laws {x : Carousel} (big : 8 ≤ x.cfg.n) :
    x.restarted.payloadsRight ∧ x.restarted.profileRight ∧ x.restarted.balance.peakRight x.cfg.n := by
  refine ⟨fun k => ?_, fun k inside => ?_, ?_⟩
  · rw [restarted_carriers, look_map]; rfl
  · exact rebuild_entries _ x.balance k inside
  · exact rework_peakRight (Nat.div_pos (by omega) (by decide)) _

/-- Settles O47: what each table holds after the restart, and the laws of a rebuilt balance. -/
theorem aWarmRestartKeepsTheBook : Obligations.AWarmRestartKeepsTheBook := by
  refine ⟨fun cause s => ?tables, fun cause c s legal => ?laws⟩
  case tables =>
    intro t
    refine ⟨rfl, rfl, rfl, rfl, fun u => look_replicate .., fun l => look_replicate .., fun p => look_map .., fun i => ?_,
      rfl, rfl, rfl, rfl, rfl, fun c => ?_, fun r => ?_⟩
    · have e : t.disc i = (s.disc i).restarted := look_map s.discs _ i
      rw [e]
      cases s.disc i <;> rfl
    · intro x y
      have same : y = x.restarted := warmRestart_carousel c
      have motion : y.motion = x.motion.restarted x.guardLine := by rw [same]; rfl
      refine ⟨by rw [same]; rfl, by rw [same]; rfl, by rw [same]; rfl, by rw [same]; rfl, by rw [same]; rfl, ?_⟩
      rw [motion]
      by_cases out : x.motion.state = .offline ∨ x.motion.state = .withdrawn
      · rw [if_pos out, Motion.restarted, if_pos ((outOfService_iff _).mpr out)]
        exact ⟨rfl, rfl, rfl, rfl, rfl⟩
      · rw [if_neg out, Motion.restarted, if_neg (mt (outOfService_iff _).mp out)]
        exact ⟨rfl, rfl, rfl, rfl, rfl, rfl, rfl, rfl, rfl⟩
    · rw [bay_eq, warmRestart_carousel, restarted_carriers, look_map, Carrier.restarted, look_map, settleEmpty_restarted]
      rfl
  case laws =>
    intro y
    have same : y = (s.carousel c).restarted := warmRestart_carousel c
    have big : 8 ≤ (s.carousel c).cfg.n := legal.2.1
    obtain ⟨payloads, profile, peak⟩ := restarted_laws big
    rw [same]
    exact ⟨payloads, profile, peak, rfl⟩

/-! ## Power-on (R162) -/

theorem powerOn_carousel (c : CarouselId) :
    s.powerOn.carousel c = Carousel.atPowerOn c (s.carousel c).guardLine := by
  show look (Vector.ofFn _) c = _
  rw [look_ofFn, look_map]; rfl

theorem operation_halted (halted : s.part = .halted) (f : State → State) : s.operation f = s := if_pos halted

/-- The defaults of Table 10-1. -/
theorem default_eq (c : CarouselId) :
    CarouselConfig.default c
      = { n := 20, bayHeight := 900, payloadLimit := 4000, putLimit := 6000, hardLimit := 9000, profile := 0,
          station := some (if c.val < 2 then 0 else if c.val < 4 then 1 else 2) } := by
  revert c; decide

/-- Settles O48: power-on, table by table, and the deaf part. -/
theorem powerOnAndPowerOnReset : Obligations.PowerOnAndPowerOnReset := by
  refine ⟨fun s => ?on, fun s => ⟨rfl, fun halted => ?halted⟩⟩
  case on =>
    refine ⟨s.powerOn, rfl, rfl, rfl, rfl, rfl, rfl, rfl, rfl, fun i => look_replicate .., fun u => look_replicate ..,
      fun l => look_replicate .., fun p => ?_, fun r => ?_, fun c k => ?_, fun c => ?_, fun g => look_map .., fun p => look_map ..,
      rfl, rfl, rfl⟩
    · show look (Vector.ofFn _) p = _
      rw [look_ofFn, look_map]; rfl
    · rw [bay_eq, powerOn_carousel]
      simp [Carousel.atPowerOn, Carrier.empty, Bay.empty]
    · rw [State.carrier, powerOn_carousel]
      simp [Carousel.atPowerOn, Carrier.empty]
    · rw [State.motion, powerOn_carousel]
      exact ⟨rfl, rfl, default_eq c, rfl, rfl, rfl, rfl, rfl⟩
  case halted =>
    have deaf (f : State → State) : Host.Outcome.next (s.operation f) = (.next s : Host.Outcome State Fault Refusal) :=
      congrArg Host.Outcome.next (operation_halted halted f)
    refine ⟨fun i h code payload e => ?_, fun p e => deaf _, fun p => deaf _, fun p v a b => deaf _, fun p => deaf _,
      fun l => deaf _, fun c => deaf _, fun c => deaf _, fun empty => ?_⟩
    · rw [exec_of_request? e]; exact deaf _
    · rw [step, empty]
      show Host.Outcome.next s.tick = _
      rw [State.tick, if_pos halted]

end Restart

end Sys2Proof.Machine

/-! The checks of a confirmation (chapters 3 and 5), and the requests of the audit unit that raise scopes, acknowledge and
resolve (chapter 8). -/

namespace Sys2Proof.Machine

/-! ## The checks of a confirmation (Tables 3-3 and 5-5) -/

section Confirmations

variable {s : State} {h : Header} {rt : ReplyTo} {t : Ticket} {x : Task} {k : Nat}

/-- The outcome of the first check that a confirmation of k on a task fails. -/
def State.confirmRefusal (s : State) (p : PortId) (kind : TaskKind) (x : Task) (k : Nat) : Option ReplyCode :=
  if ¬ s.stationSends p x.bay.carousel then some .notAtFace
  else if x.state = .cancelled then some .withdrawnTask
  else if x.state ≠ .presented then some .notAtFace
  else if x.kind ≠ kind then some .wrongState
  else if k > x.count then some .badRange
  else none

theorem takePickConfirm_of_refusal {o : ReplyCode} (stands : s.task t = some x)
    (refused : s.confirmRefusal rt.port .pick x k = some o) : s.takePickConfirm rt t k = s.refuse rt o := by
  simp only [State.confirmRefusal] at refused
  simp only [State.takePickConfirm, stands]
  split_ifs at refused ⊢ <;> simp_all

theorem takePutConfirm_of_refusal {o : ReplyCode} (stands : s.task t = some x)
    (refused : s.confirmRefusal rt.port .put x k = some o) : s.takePutConfirm rt t k = s.refuse rt o := by
  simp only [State.confirmRefusal] at refused
  simp only [State.takePutConfirm, stands]
  split_ifs at refused ⊢ <;> simp_all

theorem admitted_pickConfirm {st : StationId} (ready : s.readyFor h.port) (station : h.port = stationPort st) (v n : Byte) :
    Admitted s (.pickConfirm h v n) h .pickConfirm [v, n] :=
  ⟨rfl, ready, Nat.le_of_ble_eq_true rfl, by rw [station]; exact isStationPort_stationPort st⟩

theorem admitted_putConfirm {st : StationId} (ready : s.readyFor h.port) (station : h.port = stationPort st) (v n : Byte) :
    Admitted s (.putConfirm h v n) h .putConfirm [v, n] :=
  ⟨rfl, ready, Nat.le_of_ble_eq_true rfl, by rw [station]; exact isStationPort_stationPort st⟩

/-- Settles O22: both confirmations fail the same checks in the same order. -/
theorem confirmationsAreCheckedInOrder : Obligations.ConfirmationsAreCheckedInOrder := by
  intro h t k st kind s ready station bound pickBound i code
  have noTask : s.task t = none → Completes i s h code .notAtFace [] [] s := by
    intro missing
    have missing : (s.accepted h.port).task t = none := missing
    cases kind with
    | pick =>
      exact (admitted_pickConfirm ready station _ _).completes_of_take_refuse (parse_pickConfirm t k (pickBound rfl)) rfl
        (by rw [State.take, State.takePickConfirm, missing])
    | put =>
      exact (admitted_putConfirm ready station _ _).completes_of_take_refuse (parse_putConfirm t k bound) rfl
        (by rw [State.take, State.takePutConfirm, missing])
  have refused {x : Task} {o : ReplyCode} (stands : s.task t = some x)
      (fails : s.confirmRefusal h.port kind x k = some o) : Completes i s h code o [] [] s := by
    cases kind with
    | pick =>
      exact (admitted_pickConfirm ready station _ _).completes_of_take_refuse (parse_pickConfirm t k (pickBound rfl)) rfl
        (takePickConfirm_of_refusal (s := s.accepted h.port) stands fails)
    | put =>
      exact (admitted_putConfirm ready station _ _).completes_of_take_refuse (parse_putConfirm t k bound) rfl
        (takePutConfirm_of_refusal (s := s.accepted h.port) stands fails)
  refine ⟨noTask, fun x stands => ?_⟩
  have own : s.stationSends h.port x.bay.carousel = true ↔ (s.carousel x.bay.carousel).cfg.station = some st := by
    rw [station]; exact stationSends_iff
  split_ifs with foreign tomb queued kinds
  · exact refused stands (if_pos fun e => foreign (own.mp e))
  all_goals rw [not_not] at foreign
  · exact refused stands (by rw [State.confirmRefusal, if_neg (not_not.mpr (own.mpr foreign)), if_pos tomb])
  · exact refused stands (by
      rw [State.confirmRefusal, if_neg (not_not.mpr (own.mpr foreign)), if_neg tomb, if_pos (by simp [queued])])
  all_goals have presented : x.state = .presented := by cases e : x.state <;> simp_all
  · exact refused stands (by
      rw [State.confirmRefusal, if_neg (not_not.mpr (own.mpr foreign)), if_neg tomb, if_neg (not_not.mpr presented),
        if_pos kinds])
  · exact fun above => refused stands (by
      rw [State.confirmRefusal, if_neg (not_not.mpr (own.mpr foreign)), if_neg tomb, if_neg (not_not.mpr presented),
        if_neg kinds, if_pos above])

end Confirmations

end Sys2Proof.Machine

/-! Requests of the audit unit that raise scopes (8.1), and those that acknowledge and resolve records (8.5). -/

namespace Sys2Proof

open Machine (byteOf)

/-! ## Reading AUDIT_CARRIER and AUDIT_SWEEP -/

theorem flag?_outside {v : Byte} (outside : 1 < v.toNat) : flag? v = none := by
  have zero : v ≠ 0 := by rintro rfl; simp at outside
  have one : v ≠ 1 := by rintro rfl; simp at outside
  rw [flag?, if_neg zero, if_neg one]

theorem within?_eq_none {lo hi n : Nat} (outside : ¬ (lo ≤ n ∧ n ≤ hi)) : within? lo hi n = none := if_neg outside

theorem mode?_bit (review : Bool) : mode? (if review then 1 else 0) = some (if review then .review else .adjust) := by
  cases review <;> rfl

theorem parse_auditCarrier (c : CarouselId) (k : CarrierId) (review : Bool) :
    parseRequest .auditCarrier [byteOf c.val, byteOf k.val, if review then 1 else 0]
      = some (.auditCarrier c k (if review then .review else .adjust)) := by
  show (do pure (Request.auditCarrier (← index? 6 _) (← index? 40 _) (← mode? _))) = _
  rw [index?_carousel, index?_carrier, mode?_bit]; rfl

theorem parse_auditCarrier_outside {c k m : Byte} (outside : 5 < c.toNat ∨ 39 < k.toNat ∨ 1 < m.toNat) :
    parseRequest .auditCarrier [c, k, m] = none := by
  show (do pure (Request.auditCarrier (← index? 6 _) (← index? 40 _) (← mode? _))) = _
  rcases outside with c6 | k40 | m2
  · rw [index?_eq_none c6]; rfl
  · rw [index?_eq_none k40]; cases index? 6 c <;> rfl
  · rw [mode?, flag?_outside m2]; cases index? 6 c <;> cases index? 40 k <;> rfl

theorem parse_auditSweep (c : CarouselId) (first : CarrierId) (n : Nat) (rolling block review : Bool) (n1 : 1 ≤ n)
    (n2 : n ≤ 40) (sensible : ¬ (rolling = true ∧ block = true)) :
    parseRequest .auditSweep [byteOf c.val, byteOf first.val, byteOf n, if rolling then 1 else 0, if block then 1 else 0,
        if review then 1 else 0]
      = some (.auditSweep c first n (if rolling then .rolling else .once) (if block then .block else .steal)
          (if review then .review else .adjust)) := by
  show sweep? _ _ _ _ _ _ = _
  rw [sweep?, index?_carousel, index?_carrier, byteOf_toNat (by omega), within?_of ⟨n1, n2⟩, mode?_bit]
  cases rolling <;> cases block <;> simp [repetition?, interleave?, flag?] at sensible ⊢

theorem parse_auditSweep_outside {c k n r i m : Byte}
    (outside : 5 < c.toNat ∨ 39 < k.toNat ∨ n.toNat < 1 ∨ 40 < n.toNat ∨ 1 < r.toNat ∨ 1 < i.toNat ∨ 1 < m.toNat
      ∨ (r = 1 ∧ i = 1)) : parseRequest .auditSweep [c, k, n, r, i, m] = none := by
  show sweep? _ _ _ _ _ _ = _
  simp only [sweep?]
  rcases outside with c6 | k40 | n0 | n41 | r2 | i2 | m2 | ⟨rfl, rfl⟩
  · rw [index?_eq_none c6]; rfl
  · rw [index?_eq_none k40]; cases index? 6 c <;> rfl
  · rw [within?_eq_none (by omega)]; simp
  · rw [within?_eq_none (by omega)]; simp
  · rw [repetition?, flag?_outside r2]; simp
  · rw [interleave?, flag?_outside i2]; simp
  · rw [mode?, flag?_outside m2]; simp
  · simp [repetition?, interleave?, flag?]

/-! ## Reading RESOLVE -/

/-- The decision that a decision field from 0 to 3 names. -/
def decisionOf (d : Nat) (lot : Lot) : Decision :=
  match d with
  | 0 => .keepBook
  | 1 => .acceptCount
  | 2 => .assign lot
  | _ => .clear

theorem lot?_outside {a w m d : Nat}
    (outside : a < 1 ∨ 999999 < a ∨ w < 1 ∨ 4095 < w ∨ m < 1 ∨ 1000 < m ∨ d < 100 ∨ 500 < d) : lot? a w m d = none := by
  by_cases article : 1 ≤ a ∧ a ≤ 999999
  · by_cases week : 1 ≤ w ∧ w ≤ 4095
    · by_cases mass : 1 ≤ m ∧ m ≤ 1000
      · simp [lot?, within?_eq_none (show ¬ (100 ≤ d ∧ d ≤ 500) by omega)]
      · simp [lot?, within?_eq_none mass]
    · simp [lot?, within?_eq_none week]
  · simp [lot?, article?, within?_eq_none article]

theorem decision?_of {d a w m wd : Nat} (known : d ≤ 3)
    (assigns : d = 2 → 1 ≤ a ∧ a ≤ 999999 ∧ 1 ≤ w ∧ w ≤ 4095 ∧ 1 ≤ m ∧ m ≤ 1000 ∧ 100 ≤ wd ∧ wd ≤ 500) :
    decision? (byteOf d) a w m wd = some (decisionOf d ⟨a, w, m, wd⟩) := by
  rw [decision?, byteOf_toNat (by omega)]
  obtain rfl | rfl | rfl | rfl : d = 0 ∨ d = 1 ∨ d = 2 ∨ d = 3 := by omega
  · rfl
  · rfl
  · obtain ⟨a1, a2, w1, w2, m1, m2, d1, d2⟩ := assigns rfl
    show (lot? a w m wd).map _ = _
    rw [lot?_of ⟨a1, a2⟩ ⟨w1, w2⟩ ⟨m1, m2⟩ ⟨d1, d2⟩]; rfl
  · rfl

theorem decision?_outside {d a w m wd : Nat} (byte : d ≤ 255)
    (outside : 3 < d ∨ d = 2 ∧ (a < 1 ∨ 999999 < a ∨ w < 1 ∨ 4095 < w ∨ m < 1 ∨ 1000 < m ∨ wd < 100 ∨ 500 < wd)) :
    decision? (byteOf d) a w m wd = none := by
  rw [decision?, byteOf_toNat (by omega)]
  rcases outside with above | ⟨rfl, fields⟩
  · obtain ⟨e, rfl⟩ : ∃ e, d = e + 4 := ⟨d - 4, by omega⟩
    rfl
  · show (lot? a w m wd).map _ = _
    rw [lot?_outside fields]; rfl

theorem parse_resolve (i : EntryId) (d : Byte) (a : BitVec 24) (w m wd : BitVec 16) :
    parseRequest .resolve ([byteOf i.val, d] ++ field 3 a ++ field 2 w ++ field 2 m ++ field 2 wd)
      = (decision? d a.toNat w.toNat m.toNat wd.toNat).map (.resolve i) := by
  rw [field3, field2, field2, field2]
  show (do
    let i ← index? 32 _
    let d ← decision? d (natOf _) (natOf _) (natOf _) (natOf _)
    pure (Request.resolve i d)) = _
  rw [index?_lane, natOf_field3, natOf_field2, natOf_field2, natOf_field2]
  cases decision? d a.toNat w.toNat m.toNat wd.toNat <;> rfl

end Sys2Proof

namespace Sys2Proof.Machine

/-! ## A scope raised (R77, R87) -/

section Scopes

variable {s : State} {h : Header} {c : CarouselId} {k : CarrierId} {scope : Scope}

theorem presents_iff {x : Carousel} : x.presents k = true ↔ (x.face.map Presentation.carrier) = some k := decide_eq_true_iff

theorem callFor_isSome_iff {x : Carousel} : (x.callFor k).isSome = true ↔ ∃ q ∈ x.calls, q.carrier = k := by
  rw [Carousel.callFor, List.find?_isSome]
  simp

/-- A scope joins the pending audit of the presented carrier. -/
def Carousel.joinPending (scope : Scope) (y : Carousel) : Carousel :=
  { y with face := y.face.map fun p => { p with pendingAudit := mergeScope p.pendingAudit scope } }

/-- A scope joins the call of its carrier. -/
def Carousel.joinCall (k : CarrierId) (scope : Scope) (y : Carousel) : Carousel :=
  { y with calls := y.calls.map fun q => if q.carrier = k then { q with scope := mergeScope q.scope scope } else q }

theorem raiseScope_presented (presented : ((s.carousel c).face.map Presentation.carrier) = some k) :
    s.raiseScope c k scope = (s.modCarousel c (Carousel.joinPending scope)).dueFace :=
  if_pos (presents_iff.mpr presented)

theorem raiseScope_called (away : ((s.carousel c).face.map Presentation.carrier) ≠ some k)
    (called : ∃ q ∈ (s.carousel c).calls, q.carrier = k) :
    s.raiseScope c k scope = (s.modCarousel c (Carousel.joinCall k scope)).dueSelect :=
  (if_neg (mt presents_iff.mp away)).trans (if_pos (callFor_isSome_iff.mpr called))

theorem raiseScope_uncalled (away : ((s.carousel c).face.map Presentation.carrier) ≠ some k)
    (uncalled : ¬ ∃ q ∈ (s.carousel c).calls, q.carrier = k) :
    s.raiseScope c k scope = s.raiseCall c k (some scope) false :=
  (if_neg (mt presents_iff.mp away)).trans (if_neg (mt callFor_isSome_iff.mp uncalled))

theorem raiseCall_inner (scope : Option Scope) (aside : Bool) :
    (s.raiseCall c k scope aside).inner
      = { s.inner.modCarousel c (fun x => { x with calls := x.calls ++ [⟨k, s.stamp, 0, scope, aside⟩] }) with
          stamp := s.stamp + 1 } := rfl

/-- A request whose block writes a field `g` of the carousel, neither its calls nor its face, and raises a scope. -/
theorem Admitted.completesThen_of_take_raiseScope {i : Instr} {code : RequestCode} {payload : List Byte} {r : Request}
    (a : Admitted s i h code payload) (read : parseRequest code payload = some r) (may : s.stationMay h.port r = true)
    (g : Carousel → Carousel) (face : ∀ y, (g y).face = y.face) (calls : ∀ y, (g y).calls = y.calls)
    (answers : (s.accepted h.port).take ⟨h.port, code.byte, h.tag⟩ r
      = (((s.accepted h.port).modCarousel c g).raiseScope c k scope).respond ⟨h.port, code.byte, h.tag⟩ .done []) :
    if ((s.carousel c).face.map Presentation.carrier) = some k then
      CompletesThen i s h code .done [] [] { face := true } (s.modCarousel c (Carousel.joinPending scope ∘ g))
    else if ∃ q ∈ (s.carousel c).calls, q.carrier = k then
      CompletesThen i s h code .done [] [] { select := true } (s.modCarousel c (Carousel.joinCall k scope ∘ g))
    else
      CompletesThen i s h code .done [] [] { select := true }
        { s.modCarousel c (fun y => { g y with calls := (g y).calls ++ [⟨k, s.stamp, 0, some scope, false⟩] }) with
          stamp := s.stamp + 1 } := by
  have at_ : ((s.accepted h.port).modCarousel c g).carousel c = g (s.carousel c) := by
    rw [modCarousel_carousel_self, accepted_carousel]
  have inner (f : Carousel → Carousel) :
      (((s.accepted h.port).modCarousel c g).modCarousel c f).inner = (s.modCarousel c (f ∘ g)).inner := by
    rw [modCarousel_modCarousel, modCarousel_inner, modCarousel_inner, accepted_inner]
  split_ifs with presented called
  · rw [raiseScope_presented (by rw [at_, face]; exact presented)] at answers
    exact a.completesThen_of_take_respond _ read may answers rfl (by rw [dueFace_inner, inner]) fun _ => rfl
  · rw [raiseScope_called (by rw [at_, face]; exact presented) (by rw [at_, calls]; exact called)] at answers
    exact a.completesThen_of_take_respond _ read may answers rfl (by rw [dueSelect_inner, inner]) fun _ => rfl
  · rw [raiseScope_uncalled (by rw [at_, face]; exact presented) (by rw [at_, calls]; exact called)] at answers
    refine a.completesThen_of_take_respond _ read may answers rfl ?_ fun _ => rfl
    rw [raiseCall_inner, modCarousel_inner, accepted_inner, modCarousel_modCarousel]
    rfl

/-! ## AUDIT_CARRIER and AUDIT_SWEEP (R131, R132) -/

theorem takeAuditSweep_taken {rt : ReplyTo} {n : Nat} {rep : Repetition} {il : Interleave} {mode : AuditMode}
    (there : k.val < (s.carousel c).cfg.n) (fits : n ≤ (s.carousel c).cfg.n)
    (inService : ¬ ((s.carousel c).motion.state = .offline ∨ (s.carousel c).motion.state = .withdrawn))
    (noSweep : (s.carousel c).sweep = none) :
    s.takeAuditSweep rt c k n rep il mode
      = ((s.setSweep c (some (newSweep k n rep il mode))).raiseScope c k
          (newSweep k n rep il mode).scope).respond rt .done [] := by
  rw [State.takeAuditSweep, if_neg (not_not.mpr there), if_neg (not_lt.mpr fits), if_neg inService, noSweep]
  rfl

/-- Settles O31: the checks of Table 8-2 in order, then a scope raised. -/
theorem auditOrdersRaiseScopes : Obligations.AuditOrdersRaiseScopes := by
  refine ⟨fun h c k review s ready stock => ?carrier, fun h c first n rolling block review s ready stock n1 n2 sensible => ?sweep,
    fun h c k m s ready stock outside => ?carrierForm, fun h c k n r i m s ready stock outside => ?sweepForm⟩
  case carrierForm =>
    exact (admitted_stock ready stock rfl (Nat.le_of_ble_eq_true rfl) rfl).completes_badForm (parse_auditCarrier_outside outside)
  case sweepForm =>
    exact (admitted_stock ready stock rfl (Nat.le_of_ble_eq_true rfl) rfl).completes_badForm (parse_auditSweep_outside outside)
  case carrier =>
    intro x scope i
    have admitted : Admitted s i h .auditCarrier _ := admitted_stock ready stock rfl (Nat.le_of_ble_eq_true rfl) rfl
    have read := parse_auditCarrier c k review
    by_cases absent : x.cfg.n ≤ k.val
    · rw [if_pos absent]
      exact admitted.completes_of_take_refuse read rfl (if_pos (not_lt.mpr absent))
    have there : ¬ ¬ k.val < x.cfg.n := not_not.mpr (not_le.mp absent)
    rw [if_neg absent]
    by_cases out : x.motion.state = .offline ∨ x.motion.state = .withdrawn
    · rw [if_pos out]
      exact admitted.completes_of_take_refuse read rfl ((if_neg there).trans (if_pos out))
    · rw [if_neg out]
      refine admitted.completesThen_of_take_raiseScope read rfl id (fun _ => rfl) (fun _ => rfl) (k := k) (c := c)
        (scope := scope) ?_
      rw [modCarousel_id (f := id) _ _ rfl]
      exact (if_neg there).trans (if_neg out)
  case sweep =>
    intro x mode w scope bit i
    have admitted : Admitted s i h .auditSweep _ := admitted_stock ready stock rfl (Nat.le_of_ble_eq_true rfl) rfl
    have read := parse_auditSweep c first n rolling block review n1 n2 sensible
    by_cases absent : x.cfg.n ≤ first.val
    · rw [if_pos absent]
      exact admitted.completes_of_take_refuse read rfl (if_pos (not_lt.mpr absent))
    have there : ¬ ¬ first.val < x.cfg.n := not_not.mpr (not_le.mp absent)
    rw [if_neg absent]
    by_cases long : x.cfg.n < n
    · rw [if_pos long]
      exact admitted.completes_of_take_refuse read rfl ((if_neg there).trans (if_pos long))
    rw [if_neg long]
    by_cases out : x.motion.state = .offline ∨ x.motion.state = .withdrawn
    · rw [if_pos out]
      exact admitted.completes_of_take_refuse read rfl ((if_neg there).trans ((if_neg long).trans (if_pos out)))
    rw [if_neg out]
    by_cases swept : x.sweep = none
    · rw [if_neg (not_not.mpr swept)]
      exact admitted.completesThen_of_take_raiseScope read rfl (fun y => { y with sweep := some w }) (fun _ => rfl)
        (fun _ => rfl) (takeAuditSweep_taken (s := s.accepted h.port) (not_le.mp absent) (not_lt.mp long) out swept)
    · rw [if_pos swept]
      exact admitted.completes_of_take_refuse read rfl ((if_neg there).trans ((if_neg long).trans ((if_neg out).trans
        (if_pos (Option.isSome_iff_ne_none.mpr swept)))))

end Scopes

end Sys2Proof.Machine

/-! The choices the part makes: the first best entry of a list, the arbiter (6.3), selection (5.3), and the best candidate
of put-away (3.3). -/

namespace Sys2Proof.Machine

/-! ## The first best entry -/

section Best

variable {α β : Type} [LinearOrder β] {better : α → α → Bool} {l : List α} {x : α} {key : α → β}

theorem best?_eq_none : best? better l = none ↔ l = [] := by
  cases l with
  | nil => simp [best?]
  | cons a rest =>
    simp only [best?, reduceCtorEq, iff_false]
    split
    · simp
    · split <;> simp

/-- Where the order follows a key, weakly at least, no entry has a smaller key than the one chosen. -/
theorem best?_key_le (strict : ∀ a ∈ l, ∀ b ∈ l, key a < key b → better a b = true)
    (weak : ∀ a ∈ l, ∀ b ∈ l, better a b = true → key a ≤ key b) (chosen : best? better l = some x) :
    ∀ y ∈ l, key x ≤ key y := by
  induction l generalizing x with
  | nil => simp
  | cons a rest ih =>
    simp only [best?] at chosen
    split at chosen
    · next none =>
      cases chosen
      simp [best?_eq_none.mp none]
    · next y best =>
      have least := ih (fun a m b n => strict a (.tail _ m) b (.tail _ n)) (fun a m b n => weak a (.tail _ m) b (.tail _ n)) best
      have mem := List.mem_cons_of_mem a (best?_mem best)
      split at chosen
      · next beats =>
        cases chosen
        exact List.forall_mem_cons.mpr ⟨weak _ mem a (.head _) beats, least⟩
      · next loses =>
        cases chosen
        have le : key a ≤ key y := not_lt.mp fun lt => loses (strict _ mem a (.head _) lt)
        exact List.forall_mem_cons.mpr ⟨le_refl _, fun z m => le.trans (least z m)⟩

/-- Where the order is that of a key, the entry chosen is the first with the least key. -/
theorem best?_split (order : ∀ a ∈ l, ∀ b ∈ l, better a b = true ↔ key a < key b) (chosen : best? better l = some x) :
    ∃ before after, l = before ++ x :: after ∧ (∀ y ∈ before, key x < key y) ∧ ∀ y ∈ after, key x ≤ key y := by
  induction l generalizing x with
  | nil => simp [best?] at chosen
  | cons a rest ih =>
    simp only [best?] at chosen
    split at chosen
    · next none =>
      cases chosen
      exact ⟨[], rest, rfl, by simp, by simp [best?_eq_none.mp none]⟩
    · next y best =>
      obtain ⟨before, after, split_, first, least⟩ := ih (fun a m b n => order a (.tail _ m) b (.tail _ n)) best
      have mem := List.mem_cons_of_mem a (best?_mem best)
      have order := order y mem a (.head _)
      split at chosen
      · next beats =>
        cases chosen
        exact ⟨a :: before, after, by rw [split_, List.cons_append], List.forall_mem_cons.mpr ⟨order.mp beats, first⟩, least⟩
      · next loses =>
        cases chosen
        have le : key a ≤ key y := not_lt.mp (mt order.mpr loses)
        refine ⟨[], rest, rfl, by simp, fun z m => ?_⟩
        rw [split_, List.mem_append, List.mem_cons] at m
        rcases m with m | rfl | m
        · exact le.trans (first z m).le
        · exact le
        · exact le.trans (least z m)

end Best

/-- Stamps below 2^31 are as old as their numbers say ("Stamps and age"). -/
theorem stampOlder_iff {a b : Stamp} (ha : a.toNat < 2 ^ 31) (hb : b.toNat < 2 ^ 31) :
    stampOlder a b = true ↔ a.toNat < b.toNat := by
  have d : (b - a).toNat = (2 ^ 32 - a.toNat + b.toNat) % 2 ^ 32 := BitVec.toNat_sub b a
  rw [stampOlder]
  split
  · omega
  · rw [decide_eq_true_iff]; omega

section Choices

variable {s : State} {c : CarouselId}

/-! ## The arbiter (R101, R102) -/

theorem permitStamp?_some {stamp : Stamp} (waits : s.permitStamp? c = some stamp) :
    (s.motion c).state = .waitPermit ∧ (s.motion c).guardLatch = .closed ∧ ∃ k, (s.motion c).chosen = some k := by
  simp only [State.permitStamp?] at waits
  split at waits
  · next ready =>
    refine ⟨ready.1, ready.2, Option.ne_none_iff_exists'.mp fun none => ?_⟩
    simp [none] at waits
  · cases waits

/-- The waiting carousels with their stamps, in order of number. -/
def State.waiting (s : State) : List (CarouselId × Stamp) :=
  carouselIds.filterMap fun c => (s.permitStamp? c).map fun x => (c, x)

theorem mem_waiting {p : CarouselId × Stamp} : p ∈ s.waiting ↔ s.permitStamp? p.1 = some p.2 := by
  obtain ⟨d, e⟩ := p
  simp [State.waiting, carouselIds]

theorem waiting_sorted (s : State) : s.waiting.Pairwise fun a b => a.1 < b.1 := by
  refine List.Pairwise.filterMap _ ?_ (List.pairwise_lt_finRange 6)
  intro a b lt x hx y hy
  obtain ⟨_, _, rfl⟩ := Option.map_eq_some_iff.mp hx
  obtain ⟨_, _, rfl⟩ := Option.map_eq_some_iff.mp hy
  exact lt

/-- Settles O29: the oldest waiting stamp, and then the move of a grant. -/
theorem aGrantStartsTheMove : Obligations.AGrantStartsTheMove := by
  intro c s next
  obtain ⟨⟨d, stamp⟩, best, rfl⟩ := Option.map_eq_some_iff.mp next
  have waits : s.permitStamp? d = some stamp := mem_waiting.mp (best?_mem best)
  obtain ⟨state, latch, k, chosen⟩ := permitStamp?_some waits
  refine ⟨state, latch, k, stamp, chosen, waits, fun young e f waits' => ?_, fun offset held => ?_⟩
  · obtain ⟨before, after, all, first, least⟩ := best?_split (l := s.waiting) (key := fun p => p.2.toNat)
      (fun a ma b mb => stampOlder_iff (young _ _ (mem_waiting.mp ma)) (young _ _ (mem_waiting.mp mb))) best
    have sorted := waiting_sorted s
    have mem : (e, f) ∈ s.waiting := mem_waiting.mpr waits'
    rw [all, List.pairwise_append, List.pairwise_cons] at sorted
    rw [all, List.mem_append, List.mem_cons] at mem
    rcases mem with early | same | late
    · exact .inl (first _ early)
    · cases same; exact .inr ⟨rfl, le_refl _⟩
    · rcases (least _ late).lt_or_eq with lt | eq
      · exact .inl lt
      · exact .inr ⟨BitVec.eq_of_toNat_eq eq, (sorted.2.1.1 _ late).le⟩
  · have granted : s.grant d = s.startMove d k.target := by rw [State.grant, chosen]
    refine ⟨?_, fun q => ?_⟩
    · simp only [granted, startMove_inner, held, modMotion_inner]; rfl
    · simp only [granted, startMove_port, held, postsTo_cons, postsTo_nil]; rfl

end Choices

end Sys2Proof.Machine

/-! Selection among the calls of a carousel (5.3) and among the candidates of put-away (3.3). -/

namespace Sys2Proof.Machine

section Selection

variable {s : State} {c : CarouselId} {r : Ranked}

/-! ## Selection (R81, R82) -/

theorem mem_ranked_eligible : r ∈ (s.eligibleCalls c).map (s.ranked c) ↔ r.call ∈ s.eligibleCalls c ∧ r = s.ranked c r.call := by
  rw [List.mem_map]
  constructor
  · rintro ⟨q, mem, rfl⟩
    exact ⟨mem, rfl⟩
  · rintro ⟨mem, eq⟩
    exact ⟨_, mem, eq.symm⟩

/-- The eligible calls that were passed over 8 times, ranked. -/
def State.aged (s : State) (c : CarouselId) : List Ranked :=
  ((s.eligibleCalls c).map (s.ranked c)).filter fun r => r.call.passes ≥ Config.ageLimit

theorem mem_aged : r ∈ s.aged c ↔ (r.call ∈ s.eligibleCalls c ∧ r = s.ranked c r.call) ∧ 8 ≤ r.call.passes := by
  rw [State.aged, List.mem_filter, mem_ranked_eligible, decide_eq_true_iff]
  rfl

theorem aged_isEmpty : (s.aged c).isEmpty = true ↔ ¬ ∃ q ∈ s.eligibleCalls c, 8 ≤ q.passes := by
  rw [List.isEmpty_iff, List.eq_nil_iff_forall_not_mem]
  constructor
  · rintro none ⟨q, mem, passes⟩
    exact none (s.ranked c q) (mem_aged.mpr ⟨⟨mem, rfl⟩, passes⟩)
  · intro none r mem
    obtain ⟨⟨mem, _⟩, passes⟩ := mem_aged.mp mem
    exact none ⟨_, mem, passes⟩

theorem choose?_of_aged (aged : ∃ q ∈ s.eligibleCalls c, 8 ≤ q.passes) :
    s.choose? c = best? (fun a b => stampOlder a.call.stamp b.call.stamp) (s.aged c) :=
  if_neg fun e => aged_isEmpty.mp e aged

theorem choose?_of_fresh (fresh : ¬ ∃ q ∈ s.eligibleCalls c, 8 ≤ q.passes) :
    s.choose? c = best? Ranked.better ((s.eligibleCalls c).map (s.ranked c)) :=
  if_pos (aged_isEmpty.mpr fresh)

theorem choose?_mem (chosen : s.choose? c = some r) : r.call ∈ s.eligibleCalls c ∧ r = s.ranked c r.call := by
  by_cases aged : ∃ q ∈ s.eligibleCalls c, 8 ≤ q.passes
  · rw [choose?_of_aged aged] at chosen
    exact (mem_aged.mp (best?_mem chosen)).1
  · rw [choose?_of_fresh aged] at chosen
    exact mem_ranked_eligible.mp (best?_mem chosen)

/-- Keys 1 and 2 of the ranking: a higher class first, then a shorter distance. -/
def Ranked.key (r : Ranked) : ℤ ×ₗ ℕ := toLex (-(r.rank : ℤ), r.steps)

theorem Ranked.better_of_key_lt {a b : Ranked} (lt : a.key < b.key) : a.better b = true := by
  simp only [Ranked.key, Prod.Lex.toLex_lt_toLex] at lt
  simp only [Ranked.better, Bool.or_eq_true, Bool.and_eq_true, decide_eq_true_eq]
  omega

theorem Ranked.key_le_of_better {a b : Ranked} (better : a.better b = true) : a.key ≤ b.key := by
  simp only [Ranked.better, Bool.or_eq_true, Bool.and_eq_true, decide_eq_true_eq] at better
  simp only [Ranked.key, Prod.Lex.toLex_le_toLex]
  omega

/-- Between ranked calls with stamps below 2^31 the ranking is that of three keys, the entry stamp the last. -/
theorem Ranked.better_iff {a b : Ranked} (ha : a.call.stamp.toNat < 2 ^ 31) (hb : b.call.stamp.toNat < 2 ^ 31) :
    a.better b = true ↔ (toLex (a.key, a.call.stamp.toNat) : (ℤ ×ₗ ℕ) ×ₗ ℕ) < toLex (b.key, b.call.stamp.toNat) := by
  simp only [Ranked.better, Bool.or_eq_true, Bool.and_eq_true, decide_eq_true_eq, stampOlder_iff ha hb, Ranked.key,
    Prod.Lex.toLex_lt_toLex, EmbeddingLike.apply_eq_iff_eq, Prod.mk.injEq]
  omega

theorem select_of_away (chosen : s.choose? c = some r) (away : 0 < r.steps) :
    s.select c = ((s.passOver c r.call).modMotion c fun m =>
      { m with state := .waitPermit,
               chosen := some ⟨r.call.carrier, targetOffset (s.carousel c).cfg.n r.call.carrier.val⟩ }).dueArbiter := by
  rw [State.select, chosen]
  exact if_neg away.ne'

/-- Settles O28: the ranking has the keys of R81; a call away from the face waits for a permit. -/
theorem selectionRanksTheEligibleCalls : Obligations.SelectionRanksTheEligibleCalls := by
  refine ⟨fun c r s chosen => ⟨(choose?_mem chosen).1, (choose?_mem chosen).2, ?_⟩, fun c r s chosen away => ?_⟩
  · split_ifs with aged
    · rw [choose?_of_aged aged] at chosen
      refine ⟨(mem_aged.mp (best?_mem chosen)).2, fun young q mem passes => ?_⟩
      have young {a : Ranked} (mem : a ∈ s.aged c) : a.call.stamp.toNat < 2 ^ 31 := young _ (mem_aged.mp mem).1.1
      exact best?_key_le (key := fun a : Ranked => a.call.stamp.toNat)
        (fun a ma b mb => (stampOlder_iff (young ma) (young mb)).mpr)
        (fun a ma b mb lt => ((stampOlder_iff (young ma) (young mb)).mp lt).le) chosen
        (s.ranked c q) (mem_aged.mpr ⟨⟨mem, rfl⟩, passes⟩)
    · rw [choose?_of_fresh aged] at chosen
      intro q mem
      have ranked {q : Call} (mem : q ∈ s.eligibleCalls c) : s.ranked c q ∈ (s.eligibleCalls c).map (s.ranked c) :=
        List.mem_map_of_mem mem
      have key : r.key ≤ (s.ranked c q).key :=
        best?_key_le (fun _ _ _ _ => Ranked.better_of_key_lt) (fun _ _ _ _ => Ranked.key_le_of_better) chosen _ (ranked mem)
      have rank : (s.ranked c q).rank = s.callRank c q := rfl
      have lex := key
      simp only [Ranked.key, Prod.Lex.toLex_le_toLex, rank] at lex
      refine ⟨by omega, fun same => by omega, fun young same steps => ?_⟩
      have young {a : Ranked} (mem : a ∈ (s.eligibleCalls c).map (s.ranked c)) : a.call.stamp.toNat < 2 ^ 31 :=
        young _ (mem_ranked_eligible.mp mem).1
      have last := best?_key_le (fun a ma b mb => (Ranked.better_iff (young ma) (young mb)).mpr)
        (fun a ma b mb lt => ((Ranked.better_iff (young ma) (young mb)).mp lt).le) chosen _ (ranked mem)
      have alike : (s.ranked c q).key = r.key := by rw [Ranked.key, Ranked.key, rank, same, steps]
      rw [alike, Prod.Lex.toLex_le_toLex] at last
      exact (last.resolve_left (lt_irrefl _)).2
  · have turned := select_of_away chosen away
    refine ⟨?_, ?_, ?_, ?_, ?_, fun d other => ?_⟩
    · rw [turned, dueArbiter_motion, modMotion_motion_self, State.passOver, State.modCalls, State.motion,
        modCarousel_carousel_self]
      rfl
    · rw [turned, dueArbiter_carousel, modMotion_carousel_self, State.passOver, State.modCalls, modCarousel_carousel_self]
      simp [Config.ageLimit]
    · rw [turned]; rfl
    · rw [turned]; rfl
    · rw [turned]; rfl
    · rw [turned, dueArbiter_carousel, modMotion_carousel_ne _ _ other.symm]
      exact modCarousel_carousel_ne _ _ other.symm

end Selection

/-! ## Candidates (R39 to R42) -/

section Candidates

variable {s : State} {lot : Lot} {count : Nat} {pref : Option CarouselId} {x : Candidate}

/-- Keys 1 to 5 of Table 3-2. -/
def Candidate.key (x : Candidate) : ℕ ×ₗ ℤ ×ₗ ℕ ×ₗ ℕ ×ₗ ℕ :=
  toLex (if x.cls = .a then 0 else 1, toLex (-(x.count : ℤ), toLex (x.peak, toLex (if x.preferred then 0 else 1, x.steps))))

theorem Candidate.better_iff {a b : Candidate} : a.better b = true ↔ a.key < b.key := by
  rw [Candidate.better, Candidate.key, Candidate.key]
  simp only [Prod.Lex.toLex_lt_toLex, neg_lt_neg_iff, neg_inj, Nat.cast_inj, Nat.cast_lt]
  by_cases cls : a.cls = b.cls
  · by_cases count : a.count = b.count
    · by_cases peak : a.peak = b.peak
      · cases ha : a.preferred <;> cases hb : b.preferred <;> simp [cls, count, peak]
      · simp [cls, count, peak]
    · simp [cls, count]
  · cases ha : a.cls <;> cases hb : b.cls <;> simp_all

theorem mem_baysWhere {keep : Carousel → Bool} {r : BayRef} :
    r ∈ s.baysWhere keep ↔ keep (s.carousel r.carousel) = true ∧ r.carrier.val < (s.carousel r.carousel).cfg.n := by
  obtain ⟨c, k, b⟩ := r
  simp only [State.baysWhere, carouselIds, baysInUse, List.mem_flatMap, List.mem_finRange, true_and]
  constructor
  · rintro ⟨d, mem⟩
    split at mem
    · next kept =>
      obtain ⟨j, there, mem⟩ := List.mem_flatMap.mp mem
      obtain ⟨e, _, same⟩ := List.mem_map.mp mem
      cases same
      exact ⟨kept, by simpa using there⟩
    · cases mem
  · rintro ⟨kept, there⟩
    refine ⟨c, ?_⟩
    rw [if_pos kept]
    exact List.mem_flatMap.mpr ⟨k, by simpa using there, by simp⟩

theorem inService_iff (m : MotionState) : m.inService = true ↔ m ∉ [.offline, .unsynced, .faulted, .withdrawn] := by
  cases m <;> decide

/-- A bay with room carries no mark and is EMPTY or holds the lot (R40). -/
theorem putRoom_some {r : BayRef} {cls : PutClass} {room : Nat} (found : s.putRoom lot r = some (cls, room)) :
    (s.bay r).auditHold = false ∧ (s.bay r).disputed = false
      ∧ (cls = .a ∧ (s.bay r).lot = some lot
          ∧ room = s.stackLimitFor r.carousel lot.width - (s.bay r).count - (s.bay r).incoming
        ∨ cls = .b ∧ (s.bay r).lot = none ∧ room = s.stackLimitFor r.carousel lot.width) := by
  simp only [State.putRoom] at found
  split at found
  · cases found
  · next unmarked =>
    obtain ⟨hold, dispute⟩ : (s.bay r).auditHold = false ∧ (s.bay r).disputed = false := by simpa using unmarked
    refine ⟨hold, dispute, ?_⟩
    split at found
    · next empty => cases found; exact .inr ⟨rfl, empty, rfl⟩
    · next l holds =>
      split at found
      · next same => cases found; exact .inl ⟨rfl, by rw [holds, same], rfl⟩
      · cases found

/-- The greatest count that R41 tries for a bay with this room. -/
def State.countBound (s : State) (lot : Lot) (count room : Nat) (r : BayRef) : Nat :=
  min count (min room (headroom (s.carousel r.carousel).cfg.payloadLimit (s.carrier r.carousel r.carrier).payload lot.unitMass))

theorem candidate?_some {r : BayRef} (found : s.candidate? lot count pref r = some x) :
    ∃ room, s.putRoom lot r = some (x.cls, room) ∧ x.bay = r
      ∧ placeable (s.carousel r.carousel).cfg.n r.carrier.val (s.carousel r.carousel).balance.entries lot.unitMass
          (s.carousel r.carousel).cfg.putLimit (s.countBound lot count room r) = some (x.count, x.peak)
      ∧ x.steps = distance (s.carousel r.carousel).cfg.n ((s.motion r.carousel).rankOffset (s.carousel r.carousel).cfg.n)
          (targetOffset (s.carousel r.carousel).cfg.n r.carrier.val) := by
  simp only [State.candidate?] at found
  split at found
  · cases found
  · next cls room room_ =>
    split at found
    · cases found
    · next n peak placed =>
      cases found
      exact ⟨room, room_, rfl, placed, rfl⟩

theorem mem_candidates (mem : x ∈ s.candidates lot count pref) :
    (s.carousel x.bay.carousel).takesPuts = true ∧ x.bay.carrier.val < (s.carousel x.bay.carousel).cfg.n
      ∧ s.candidate? lot count pref x.bay = some x := by
  obtain ⟨r, listed, found⟩ := List.mem_filterMap.mp mem
  obtain ⟨_, _, rfl, _⟩ := candidate?_some found
  obtain ⟨takes, there⟩ := mem_baysWhere.mp listed
  exact ⟨takes, there, found⟩

theorem candidate_count_pos (mem : x ∈ s.candidates lot count pref) : 1 ≤ x.count ∧ x.count ≤ count := by
  obtain ⟨room, _, _, placed, _⟩ := candidate?_some (mem_candidates mem).2.2
  obtain ⟨positive, bound, _⟩ := largest_passes_of_placeable_some placed
  exact ⟨positive, bound.trans (min_le_left _ _)⟩

/-- Settles O19: the first best candidate, and what makes a bay one. -/
theorem theBestCandidateIsChosen : Obligations.TheBestCandidateIsChosen := by
  refine ⟨fun lot count pref x s best => ?_, fun lot count pref x s mem => ?_⟩
  · obtain ⟨before, after, all, first, least⟩ := best?_split (key := Candidate.key) (fun _ _ _ _ => Candidate.better_iff) best
    exact ⟨before, after, all, fun y m => Candidate.better_iff.mpr (first y m),
      fun y m => Bool.eq_false_iff.mpr fun e => (Candidate.better_iff.mp e).not_ge (least y m)⟩
  · intro c b
    obtain ⟨takes, there, found⟩ := mem_candidates mem
    obtain ⟨inService, light⟩ : c.motion.state.inService = true ∧ c.balance.overweight = false := by
      simpa [Carousel.takesPuts] using takes
    obtain ⟨room, roomy, _, placed, steps⟩ := candidate?_some found
    obtain ⟨hold, dispute, lots⟩ := putRoom_some roomy
    obtain ⟨positive, bound, passes, peak, _⟩ := largest_passes_of_placeable_some placed
    obtain ⟨asked, inRoom, inHead⟩ : x.count ≤ count ∧ x.count ≤ room
        ∧ x.count ≤ headroom c.cfg.payloadLimit (s.carrier x.bay.carousel x.bay.carrier).payload lot.unitMass := by
      simpa [State.countBound] using bound
    refine ⟨(inService_iff _).mp inService, light, there, hold, dispute, ?_, positive, asked, inHead, peak, ?_, ?_⟩
    · rcases lots with ⟨a, holds, rfl⟩ | ⟨b, empty, rfl⟩
      · refine .inl ⟨a, holds, ?_⟩
        show x.count + (s.bay x.bay).count + (s.bay x.bay).incoming ≤ s.stackLimitFor x.bay.carousel lot.width
        omega
      · exact .inr ⟨b, empty, inRoom⟩
    · exact peak ▸ passes
    · intro turning step
      have turning_iff : c.motion.state.holdsPermit = true ↔ turning := by
        rw [holdsPermit_iff]; simp [turning]
      refine ⟨fun k still held => ?_, fun k w turns chosen hk ht last => ?_⟩
      · have rest : (s.motion x.bay.carousel).state.holdsPermit = false := Bool.eq_false_iff.mpr (mt turning_iff.mp still)
        rw [steps, rankOffset_atRest _ _ rest, show (s.motion x.bay.carousel).held = some k from held]
        rfl
      · have origin : (s.motion x.bay.carousel).rankOffset (s.carousel x.bay.carousel).cfg.n = k :=
          rankOffset_turning (turning_iff.mpr turns) chosen hk ht last
        rw [steps, origin]
        rfl

end Candidates

end Sys2Proof.Machine

/-! What freeing tasks and taking pick tasks away leave: the book, the lanes, the ports and the carousels (4.3, 4.5, 5.1). -/

namespace Sys2Proof.Machine

/-! ## Calls that go and tasks that are freed (R62, R78, R82) -/

section Frees

variable {s t u : State} {c d : CarouselId} {k : CarrierId}

/-- A state without its tasks, its carousels and what is due: what the work of the call planner leaves. -/
def State.fixed (s : State) : State :=
  { s with tasks := Vector.replicate 256 none, carousels := State.reset.carousels, due := {} }

/-- `t` is `s` but for tasks, calls, motion records, and the work due of freed tasks and of selection. -/
structure Frees (s t : State) : Prop where
  fixed : t.fixed = s.fixed
  carousel : ∀ c, t.carousel c = { s.carousel c with calls := (t.carousel c).calls, motion := t.motion c }
  due : t.due = { s.due with freed := t.due.freed, select := t.due.select }

namespace Frees

theorem refl (s : State) : Frees s s := ⟨rfl, fun _ => rfl, rfl⟩

theorem trans (h : Frees s t) (h' : Frees t u) : Frees s u :=
  ⟨h'.fixed.trans h.fixed, fun c => by rw [h'.carousel, h.carousel], by rw [h'.due, h.due]⟩

theorem ports (h : Frees s t) : t.ports = s.ports := (congrArg State.ports h.fixed :)
theorem port (h : Frees s t) (q : PortId) : t.port q = s.port q := by rw [State.port, h.ports]; rfl
theorem lanes (h : Frees s t) : t.lanes = s.lanes := (congrArg State.lanes h.fixed :)
theorem lane (h : Frees s t) (l : LaneId) : t.lane l = s.lane l := by rw [State.lane, h.lanes]; rfl
theorem discs (h : Frees s t) : t.discs = s.discs := (congrArg State.discs h.fixed :)
theorem discOrder (h : Frees s t) : t.discOrder = s.discOrder := (congrArg State.discOrder h.fixed :)
theorem globals (h : Frees s t) : t.globals = s.globals := (congrArg State.globals h.fixed :)
theorem stamp (h : Frees s t) : t.stamp = s.stamp := (congrArg State.stamp h.fixed :)
theorem carriers (h : Frees s t) (c : CarouselId) : (t.carousel c).carriers = (s.carousel c).carriers := by rw [h.carousel]
theorem carrier (h : Frees s t) (c : CarouselId) (k : CarrierId) : t.carrier c k = s.carrier c k := by
  rw [State.carrier, h.carriers]; rfl
theorem bay (h : Frees s t) (r : BayRef) : t.bay r = s.bay r := by rw [State.bay, h.carrier]; rfl

theorem dueSelect (s : State) : Frees s s.dueSelect := ⟨rfl, fun _ => rfl, rfl⟩

theorem removeCall (s : State) (c : CarouselId) (k : CarrierId) : Frees s (s.removeCall c k) := by
  refine ⟨?_, fun d => ?_, ?_⟩
  · unfold State.removeCall; dsimp only; split <;> rfl
  · rw [State.motion, removeCall_carousel]; split <;> rfl
  · unfold State.removeCall; dsimp only; split <;> rfl

theorem pruneCall (s : State) (c : CarouselId) (k : CarrierId) : Frees s (s.pruneCall c k) := by
  unfold State.pruneCall
  split
  · exact refl s
  · split
    · exact removeCall s c k
    · exact dueSelect s

theorem freeTask (s : State) (i : Ticket) : Frees s (s.freeTask i) := by
  unfold State.freeTask
  split
  · exact refl s
  · next x _ =>
    exact trans (t := (s.setTask i none).dueFreed) ⟨rfl, fun _ => rfl, rfl⟩ (pruneCall _ x.bay.carousel x.bay.carrier)

theorem foldl {α : Type} {f : State → α → State} (l : List α) (one : ∀ u a, Frees u (f u a)) (s : State) :
    Frees s (l.foldl f s) := by
  induction l generalizing s with
  | nil => exact refl s
  | cons a rest ih => exact (one s a).trans (ih _)

theorem freeTombstones (s : State) (c : CarouselId) : Frees s (s.freeTombstones c) :=
  foldl (s.tombstonesOn c) (fun u q => freeTask u q.1) s

end Frees

theorem pruneCall_freed (s : State) (c : CarouselId) (k : CarrierId) : (s.pruneCall c k).due.freed = s.due.freed := by
  unfold State.pruneCall
  split
  · rfl
  · split
    · unfold State.removeCall; dsimp only; split <;> rfl
    · rfl

theorem freeTask_freed {i : Ticket} {x : Task} (stands : s.task i = some x) : (s.freeTask i).due.freed = true := by
  rw [State.freeTask, stands]
  exact pruneCall_freed _ _ _

theorem freeTask_other {i : Ticket} {x : Task} (stands : s.task i = some x) (other : d ≠ x.bay.carousel) :
    (s.freeTask i).carousel d = s.carousel d := by
  have kept (v : State) : (v.pruneCall x.bay.carousel x.bay.carrier).carousel d = v.carousel d := by
    unfold State.pruneCall
    split
    · rfl
    · split
      · rw [removeCall_carousel, if_neg other.symm]
      · rfl
  rw [State.freeTask, stands]
  exact kept _

end Frees

/-! ## A change of a bay that moves no payload -/

section Light

variable {s : State} {r : BayRef} {f : Bay → Bay} {c : CarouselId}

/-- The change leaves what the bay adds to its carrier's planned payload. -/
def Weightless (f : Bay → Bay) : Prop := ∀ b, (f b).mass = b.mass

theorem booked_of_weightless (light : Weightless f) (k : CarrierId) (b : BayId) (x : Carousel) :
    x.booked k b f = { x with
      carriers := put x.carriers k
        { bays := put (look x.carriers k).bays b (f (look (look x.carriers k).bays b)).settleEmpty,
          payload := (look x.carriers k).payload } } := by
  simp [Carousel.booked, light _]

theorem flips_of_weightless (light : Weightless f) (k : CarrierId) (b : BayId) (x : Carousel) : x.flips k b f = false := by
  rw [Carousel.flips, booked_of_weightless light]; simp

theorem bookPosts_of_weightless (light : Weightless f) : s.bookPosts r f = [] := by
  simp [State.bookPosts, flips_of_weightless light]

theorem changeBay_port_of_weightless (light : Weightless f) (q : PortId) : (s.changeBay r f).port q = s.port q := by
  rw [changeBay_port, bookPosts_of_weightless light, postsTo_nil]

theorem changeBay_due_of_weightless (light : Weightless f) : (s.changeBay r f).due = s.due := by
  rw [changeBay_due, flips_of_weightless light]; simp

theorem changeBay_carousel_of_weightless (light : Weightless f) :
    (s.changeBay r f).carousel c = { s.carousel c with carriers := ((s.changeBay r f).carousel c).carriers } := by
  rw [changeBay_carousel]
  split
  · rw [booked_of_weightless light]
  · rfl

theorem changeBay_payload_of_weightless (light : Weightless f) (k : CarrierId) :
    ((s.changeBay r f).carrier c k).payload = (s.carrier c k).payload := by
  rw [State.carrier, changeBay_carousel]
  split
  · rw [booked_of_weightless light, State.carrier]
    by_cases e : r.carrier = k
    · subst e; simp
    · simp [e]
  · rfl

theorem changeBay_fixed : { (s.changeBay r f).fixed with ports := s.ports } = s.fixed :=
  congrArg (fun u : State => { u.fixed with ports := s.ports }) (changeBay_inner s r f)

theorem giveBack_of_pick {x : Task} (pick : x.kind = .pick) : giveBack x = fun b => { b with reserved := b.reserved - x.count } := by
  funext b; rw [giveBack, pick]

theorem giveBack_of_put {x : Task} (put_ : x.kind = .put) : giveBack x = fun b => { b with incoming := b.incoming - x.count } := by
  funext b; rw [giveBack, put_]

theorem weightless_reserved (g : Bay → Nat) : Weightless fun b => { b with reserved := g b } := fun _ => rfl

end Light

end Sys2Proof.Machine

/-! What taking pick tasks away leaves (4.5). -/

namespace Sys2Proof.Machine

section TakeAway

variable {s t u : State} {c : CarouselId} {k : CarrierId} {i : Ticket} {x : Task} {l : List (Ticket × Task)}

theorem postStation_postsTo (n : Notice) (q : PortId) :
    (s.postStation c n).port q
      = postsTo ((s.carousel c).cfg.station.toList.map fun st => (stationPort st, n)) q (s.port q) := by
  rw [State.postStation]
  split
  · next none => rw [none]; rfl
  · next st some => rw [some, post_postsTo]; rfl

/-! ## The tasks and the lanes -/

/-- What is left of a task that is taken away (R70, R72). -/
def Task.takenAway (x : Task) : Option Task :=
  if x.state = .presented then some { x with state := .cancelled, work := none } else none

theorem takeAway_of_queued (queued : x.state = .queued) : s.takeAway i x = (s.changeBay x.bay (giveBack x)).freeTask i := by
  rw [State.takeAway, queued]

theorem takeAway_of_presented (presented : x.state = .presented) : s.takeAway i x = s.entomb i x := by
  rw [State.takeAway, presented]

theorem takeAway_task_self (live : x.state ≠ .cancelled) : (s.takeAway i x).task i = x.takenAway := by
  cases state : x.state with
  | queued => rw [takeAway_of_queued state, freeTask_task, if_pos rfl, Task.takenAway, if_neg (by simp [state])]
  | presented =>
    rw [takeAway_of_presented state, Task.takenAway, if_pos state, State.entomb, dueFace_task, postStation_task,
      setTask_task_self]
  | cancelled => exact absurd state live

theorem entomb_lanes : (s.entomb i x).lanes = s.lanes := by
  rw [State.entomb]
  exact (postStation_lanes ..).trans (changeBay_lanes ..)

theorem takeAway_lanes : (s.takeAway i x).lanes = s.lanes := by
  cases state : x.state with
  | queued => rw [takeAway_of_queued state, (Frees.freeTask _ i).lanes, changeBay_lanes]
  | presented => rw [takeAway_of_presented state, entomb_lanes]
  | cancelled => rw [State.takeAway, state]

/-- Tasks are taken away, one after the other. -/
def State.takeAll (s : State) (l : List (Ticket × Task)) : State := l.foldl (fun acc q => acc.takeAway q.1 q.2) s

theorem takeAll_cons (p : Ticket × Task) : s.takeAll (p :: l) = (s.takeAway p.1 p.2).takeAll l := rfl

theorem takeAll_lanes : (s.takeAll l).lanes = s.lanes := by
  induction l generalizing s with
  | nil => rfl
  | cons p rest ih => rw [takeAll_cons, ih, takeAway_lanes]

theorem takeAll_task_of_not_mem (out : i ∉ l.map Prod.fst) : (s.takeAll l).task i = s.task i := by
  induction l generalizing s with
  | nil => rfl
  | cons p rest ih =>
    rw [List.map_cons, List.mem_cons, not_or] at out
    rw [takeAll_cons, ih out.2, takeAway_task_ne _ (Ne.symm out.1)]

theorem takeAll_task_of_mem (once : (l.map Prod.fst).Nodup) (mem : (i, x) ∈ l) (live : x.state ≠ .cancelled) :
    (s.takeAll l).task i = x.takenAway := by
  induction l generalizing s with
  | nil => cases mem
  | cons p rest ih =>
    rw [List.map_cons, List.nodup_cons] at once
    rw [takeAll_cons]
    rcases List.mem_cons.mp mem with rfl | mem
    · rw [takeAll_task_of_not_mem once.1, takeAway_task_self live]
    · exact ih once.2 mem

/-! ## The book, the ports and what is due, where pick tasks are taken away -/

/-- The tyres that some tasks hold of a bay. -/
def shareOf (l : List (Ticket × Task)) (r : BayRef) : Nat := (l.map fun p => if p.2.bay = r then p.2.count else 0).sum

/-- The notice of a task taken away: TASK_CANCELLED to the station, for a PRESENTED one (R88). -/
def State.tombNotice (s : State) (p : Ticket × Task) : Option (PortId × Notice) :=
  if p.2.state = .presented then
    (s.carousel p.2.bay.carousel).cfg.station.map fun st => (stationPort st, .taskCancelled p.2.bay.carousel p.1)
  else none

/-- A bay that loses reserved tyres, with the return to EMPTY (R12). -/
def Bay.unreserve (n : Nat) (b : Bay) : Bay := ({ b with reserved := b.reserved - n } : Bay).settleEmpty

theorem unreserve_unreserve (b : Bay) (m n : Nat) : (b.unreserve m).unreserve n = b.unreserve (m + n) := by
  have reserved : (b.unreserve m).reserved = b.reserved - m := settleEmpty_reserved _
  rw [Bay.unreserve, reserved]
  simp only [Bay.unreserve, Bay.settleEmpty, Nat.sub_add_eq]
  by_cases empty : b.count = 0 ∧ b.reserved - m = 0 ∧ b.incoming = 0
  · rw [if_pos empty, if_pos ⟨empty.1, by omega, empty.2.2⟩]
    simp [empty]
  · rw [if_neg empty]

/-- What pick tasks taken away leave: each bay's reserved falls by their tyres, and no payload moves. -/
structure TakesAway (l : List (Ticket × Task)) (s t : State) : Prop where
  fixed : { t.fixed with ports := s.ports } = s.fixed
  carousel : ∀ c, t.carousel c = { s.carousel c with
    carriers := (t.carousel c).carriers, calls := (t.carousel c).calls, motion := t.motion c }
  payload : ∀ c k, (t.carrier c k).payload = (s.carrier c k).payload
  bay : ∀ r, t.bay r = if r ∈ l.map (fun p => p.2.bay) then (s.bay r).unreserve (shareOf l r) else s.bay r
  due : t.due = { s.due with
    freed := s.due.freed || l.any fun p => p.2.state = .queued,
    face := s.due.face || l.any fun p => p.2.state = .presented,
    select := t.due.select }
  port : ∀ q, t.port q = postsTo (l.filterMap s.tombNotice) q (s.port q)

theorem changeBay_eq_fixed (r : BayRef) (f : Bay → Bay) : { (s.changeBay r f).fixed with ports := s.ports } = s.fixed :=
  congrArg (fun u : State => { u.fixed with ports := s.ports }) (changeBay_inner s r f)

theorem takesAway_nil : TakesAway [] s s :=
  ⟨rfl, fun _ => rfl, fun _ _ => rfl, fun _ => by simp, by simp, fun _ => by simp⟩

theorem TakesAway.tombNotice (h : TakesAway l s t) : t.tombNotice = s.tombNotice := by
  funext p; rw [State.tombNotice, h.carousel]; rfl

theorem TakesAway.trans {l' : List (Ticket × Task)} (h : TakesAway l s t) (h' : TakesAway l' t u) :
    TakesAway (l ++ l') s u := by
  refine ⟨?_, fun c => by rw [h'.carousel, h.carousel], fun c k => (h'.payload c k).trans (h.payload c k), fun r => ?_, ?_, fun q => ?_⟩
  · have e : { u.fixed with ports := s.ports } = { t.fixed with ports := s.ports } :=
      congrArg (fun v : State => { v with ports := s.ports }) h'.fixed
    rw [e, h.fixed]
  · have shares : shareOf (l ++ l') r = shareOf l r + shareOf l' r := by simp [shareOf]
    rw [h'.bay, h.bay, shares]
    simp only [List.map_append, List.mem_append]
    have none {m : List (Ticket × Task)} (out : r ∉ m.map fun p => p.2.bay) : shareOf m r = 0 := by
      refine List.sum_eq_zero fun n mem => ?_
      obtain ⟨p, inside, rfl⟩ := List.mem_map.mp mem
      exact if_neg fun e => out (List.mem_map.mpr ⟨p, inside, e⟩)
    by_cases first : r ∈ l.map fun p => p.2.bay <;> by_cases second : r ∈ l'.map fun p => p.2.bay
    · rw [if_pos first, if_pos second, if_pos (.inl first), unreserve_unreserve]
    · rw [if_neg second, if_pos first, if_pos (.inl first), none second, Nat.add_zero]
    · rw [if_pos second, if_neg first, if_pos (.inr second), none first, Nat.zero_add]
    · rw [if_neg second, if_neg first, if_neg (by tauto)]
  · rw [h'.due, h.due]
    simp [Bool.or_assoc]
  · rw [h'.port, h.port, ← postsTo_append, List.filterMap_append, h.tombNotice]

theorem takesAway_changeBay (pick : x.kind = .pick) (queued : x.state = .queued) (stands : s.task i = some x) :
    TakesAway [(i, x)] s ((s.changeBay x.bay (giveBack x)).freeTask i) := by
  have light : Weightless (giveBack x) := by rw [giveBack_of_pick pick]; exact weightless_reserved _
  have frees := Frees.freeTask (s.changeBay x.bay (giveBack x)) i
  refine ⟨?_, fun c => ?_, fun c k => ?_, fun r => ?_, ?_, fun q => ?_⟩
  · rw [frees.fixed, changeBay_eq_fixed]
  · rw [frees.carousel, changeBay_carousel_of_weightless light]
  · rw [frees.carrier, changeBay_payload_of_weightless light]
  · rw [frees.bay, changeBay_bay, giveBack_of_pick pick]
    by_cases e : r = x.bay
    · subst e; simp [shareOf, Bay.unreserve]
    · simp [e]
  · rw [frees.due, freeTask_freed (x := x) (by rw [changeBay_task, stands]), changeBay_due_of_weightless light]
    simp [queued]
  · rw [frees.port, changeBay_port_of_weightless light, List.filterMap_cons_none (by simp [State.tombNotice, queued]),
      List.filterMap_nil, postsTo_nil]

theorem takesAway_entomb (pick : x.kind = .pick) (presented : x.state = .presented) : TakesAway [(i, x)] s (s.entomb i x) := by
  have light : Weightless (giveBack x) := by rw [giveBack_of_pick pick]; exact weightless_reserved _
  have carousel (c : CarouselId) : (s.entomb i x).carousel c = (s.changeBay x.bay (giveBack x)).carousel c := by
    rw [State.entomb, dueFace_carousel, postStation_carousel, setTask_carousel]
  refine ⟨?_, fun c => ?_, fun c k => ?_, fun r => ?_, ?_, fun q => ?_⟩
  · have fixed (v : State) (y : Option Task) (n : Notice) :
        { ((v.setTask i y).postStation x.bay.carousel n).dueFace.fixed with ports := s.ports }
          = { v.fixed with ports := s.ports } := by
      unfold State.postStation
      split <;> rfl
    exact (fixed _ _ _).trans (changeBay_eq_fixed _ _)
  · rw [State.motion, carousel, changeBay_carousel_of_weightless light]
  · rw [← changeBay_payload_of_weightless (s := s) (r := x.bay) light k, State.carrier, carousel]; rfl
  · rw [State.bay, State.carrier, carousel]
    refine (changeBay_bay s x.bay (giveBack x) r).trans ?_
    rw [giveBack_of_pick pick]
    by_cases e : r = x.bay
    · subst e; simp [shareOf, Bay.unreserve]
    · simp [e]
  · rw [State.entomb, State.dueFace, postStation_due, setTask_due, changeBay_due_of_weightless light]
    simp [presented]
  · rw [State.entomb, dueFace_port, postStation_postsTo, setTask_carousel, changeBay_carousel_of_weightless light,
      State.port, setTask_ports]
    refine congrArg₂ (fun a b => postsTo a q b) ?_ (changeBay_port_of_weightless light q)
    rw [List.filterMap_cons, List.filterMap_nil, State.tombNotice, if_pos presented]
    cases (s.carousel x.bay.carousel).cfg.station <;> rfl

/-- Live pick tasks taken away, each still in its place when its turn comes. -/
theorem takesAway_takeAll (once : (l.map Prod.fst).Nodup)
    (stand : ∀ p ∈ l, s.task p.1 = some p.2 ∧ p.2.kind = .pick ∧ p.2.state ≠ .cancelled) : TakesAway l s (s.takeAll l) := by
  induction l generalizing s with
  | nil => exact takesAway_nil
  | cons p rest ih =>
    obtain ⟨i, x⟩ := p
    rw [List.map_cons, List.nodup_cons] at once
    obtain ⟨stands, pick, live⟩ := stand (i, x) (.head _)
    have first : TakesAway [(i, x)] s (s.takeAway i x) := by
      cases state : x.state with
      | queued => rw [takeAway_of_queued state]; exact takesAway_changeBay pick state stands
      | presented => rw [takeAway_of_presented state]; exact takesAway_entomb pick state
      | cancelled => exact absurd state live
    refine first.trans (ih once.2 fun q mem => ?_)
    rw [takeAway_task_ne _ fun e => once.1 (List.mem_map.mpr ⟨q, mem, e.symm⟩)]
    exact stand q (.tail _ mem)

end TakeAway

/-! ## Lists of tasks as lists of tickets -/

section Tickets

variable {s : State} {α : Type} {l : LaneId} {keep : PickWork → Bool}

/-- The task is a live pick task of a lane that satisfies the test. -/
def Task.worksFor (l : LaneId) (keep : PickWork → Bool) (x : Task) : Bool :=
  match x.work with
  | none => false
  | some w => w.lane = l && keep w

theorem pickTasks_eq (s : State) (l : LaneId) (keep : PickWork → Bool) :
    s.pickTasks l keep
      = (List.finRange 256).filterMap fun t => ((s.task t).filter (Task.worksFor l keep)).map fun x => (t, x) := by
  rw [State.pickTasks, State.allTasks, List.filter_filterMap]
  refine List.filterMap_congr fun t _ => ?_
  cases s.task t with
  | none => rfl
  | some x =>
    obtain ⟨kind, bay, count, work, stamp, state⟩ := x
    cases work with
    | none => rfl
    | some w =>
      by_cases mine : (decide (w.lane = l) && keep w) = true <;> simp [Option.filter_some, Task.worksFor, mine]

theorem pickTasks_nodup : ((s.pickTasks l keep).map Prod.fst).Nodup :=
  (allTasks_nodup s).sublist (List.Sublist.map _ List.filter_sublist)

theorem mem_pickTasks_iff {t : Ticket} {x : Task} : (t, x) ∈ s.pickTasks l keep ↔ s.task t = some x ∧ x.worksFor l keep = true := by
  rw [mem_pickTasks]
  refine and_congr_right fun _ => ?_
  cases e : x.work <;> simp [Task.worksFor, e]

theorem sum_filterMap (f : Ticket → Option α) (g : α → Nat) (ts : List Ticket) :
    ((ts.filterMap f).map g).sum = (ts.map fun t => ((f t).map g).getD 0).sum := by
  induction ts with
  | nil => rfl
  | cons t rest ih =>
    rw [List.filterMap_cons, List.map_cons, List.sum_cons, ← ih]
    cases f t <;> simp

theorem any_filterMap (f : Ticket → Option α) (g : α → Bool) (ts : List Ticket) :
    (ts.filterMap f).any g = ts.any fun t => ((f t).map g) = some true := by
  induction ts with
  | nil => rfl
  | cons t rest ih =>
    rw [List.filterMap_cons, List.any_cons, ← ih]
    cases f t <;> simp

end Tickets

end Sys2Proof.Machine

/-! ORDER_CANCEL (R72). -/

namespace Sys2Proof.Machine

section Cancel

variable {s : State} {l m : LaneId} {o : Order} {h : Header} {rt : ReplyTo} {t : Ticket} {x : Task}

/-! ## The lines of a cancelled order -/

theorem foldl_add_transit (sets : List SetRecord) (a b : Counters) (same : a.transit = b.transit ∧ a.arrived = b.arrived) :
    ((sets.map SetRecord.cancel).foldl (fun acc x => acc.add x.tyres) a).transit
        = (sets.foldl (fun acc x => acc.add x.tyres) b).transit
      ∧ ((sets.map SetRecord.cancel).foldl (fun acc x => acc.add x.tyres) a).arrived
        = (sets.foldl (fun acc x => acc.add x.tyres) b).arrived := by
  induction sets generalizing a b with
  | nil => exact same
  | cons y rest ih => exact ih _ _ ⟨congrArg (· + _) same.1, congrArg (· + _) same.2⟩

theorem Line.cancel_tyres (y : Line) :
    y.cancel.tyres.transit = y.tyres.transit ∧ y.cancel.tyres.arrived = y.tyres.arrived := by
  obtain ⟨article, quantity, setSize, minWeek, waiting, body⟩ := y
  cases body with
  | unmatched t => exact ⟨rfl, rfl⟩
  | matched sets => exact foldl_add_transit sets _ _ ⟨rfl, rfl⟩

theorem cancelTarget_map_cancel (lines : List Line) :
    cancelTarget (lines.map Line.cancel)
      = if ∃ y ∈ lines, 0 < y.tyres.transit then .cancelling
        else if ∃ y ∈ lines, 0 < y.tyres.arrived then .cancelled else .free := by
  simp [cancelTarget, Line.cancel_tyres]

/-! ## The lane at the end of a cancel -/

/-- The lane goes to its new state, to L11 where it is not FREE. -/
def State.endCancel (s : State) (l : LaneId) : LaneState → State
  | .free => s.modLane l Lane.discard
  | y => (s.modLane l fun x => { x with state := y }).postLaneState lanePort l

theorem endCancel_of_ne_free {y : LaneState} (other : y ≠ .free) :
    s.endCancel l y = (s.modLane l fun x => { x with state := y }).postLaneState lanePort l := by
  cases y with
  | free => exact absurd rfl other
  | opened | filling | complete | cancelling | cancelled | released => rfl

theorem cancelFilling_eq (order : (s.lane l).order = some o) :
    s.cancelFilling l = ((s.takeAll (s.pickTasks l fun _ => true)).modLane l (Lane.modLines fun ls => ls.map Line.cancel)).endCancel l
      (cancelTarget (o.lines.map Line.cancel)) := by
  have lines : (((s.takeAwayAll l).modLane l (Lane.modLines fun ls => ls.map Line.cancel)).lane l).lines = o.lines.map Line.cancel := by
    have kept : (s.takeAwayAll l).lane l = s.lane l := by
      rw [State.lane]; exact congrArg (look · l) takeAll_lanes
    rw [modLane_lane_self, kept]
    simp [Lane.lines, Lane.modLines, order]
  unfold State.cancelFilling
  dsimp only
  rw [lines]
  cases cancelTarget (o.lines.map Line.cancel) <;> rfl

/-- Everything but the lanes and the ports stays at the end of a cancel. -/
structure Lanes (s t : State) : Prop where
  tasks : t.tasks = s.tasks
  carousels : t.carousels = s.carousels
  discs : t.discs = s.discs
  globals : t.globals = s.globals
  due : t.due = s.due

theorem endCancel_rest (y : LaneState) : Lanes s (s.endCancel l y) := by cases y <;> exact ⟨rfl, rfl, rfl, rfl, rfl⟩

theorem endCancel_lane_ne (y : LaneState) (other : m ≠ l) : (s.endCancel l y).lane m = s.lane m := by
  by_cases free : y = .free
  · subst free; exact modLane_lane_ne s _ other.symm
  · rw [endCancel_of_ne_free free, State.postLaneState, post_lane, modLane_lane_ne s _ other.symm]

theorem endCancel_lane (y : LaneState) :
    (s.endCancel l y).lane l = if y = .free then (s.lane l).discard else { s.lane l with state := y } := by
  by_cases free : y = .free
  · subst free; exact modLane_lane_self s l _
  · rw [endCancel_of_ne_free free, if_neg free, State.postLaneState, post_lane, modLane_lane_self]

theorem endCancel_state (y : LaneState) : ((s.endCancel l y).lane l).state = y := by
  rw [endCancel_lane]
  split
  · next free => exact free.symm
  · rfl

theorem endCancel_port (y : LaneState) (q : PortId) :
    (s.endCancel l y).port q = postsTo (if y = .free then [] else
      [(lanePort, .laneState l y (s.lane l).ref (s.lane l).strays)]) q (s.port q) := by
  by_cases free : y = .free
  · subst free; rfl
  · rw [endCancel_of_ne_free free, if_neg free, State.postLaneState, post_postsTo, modLane_lane_self]; rfl

/-! ## The tasks of the lane -/

theorem worksFor_lane : x.worksFor l (fun _ => true) = true ↔ x.work.map PickWork.lane = some l := by
  cases e : x.work <;> simp [Task.worksFor, e]

theorem shareOf_pickTasks (keep : PickWork → Bool) (r : BayRef) :
    shareOf (s.pickTasks l keep) r = ((List.finRange 256).map fun t =>
      match s.task t with
      | some y => if y.worksFor l keep = true ∧ y.bay = r then y.count else 0
      | none => 0).sum := by
  rw [shareOf, pickTasks_eq, sum_filterMap]
  refine congrArg List.sum (List.map_congr_left fun t _ => ?_)
  cases s.task t with
  | none => rfl
  | some y => cases mine : y.worksFor l keep <;> simp [Option.filter_some, mine]

theorem any_pickTasks (keep : PickWork → Bool) (g : Task → Bool) :
    (s.pickTasks l keep).any (fun p => g p.2)
      = (List.finRange 256).any fun t => ((s.task t).map fun y => y.worksFor l keep && g y) = some true := by
  rw [pickTasks_eq, any_filterMap]
  refine congrArg (List.any (List.finRange 256)) (funext fun t => ?_)
  cases s.task t with
  | none => rfl
  | some y => cases mine : y.worksFor l keep <;> simp [Option.filter_some, mine]

theorem filterMap_pickTasks {α : Type} (keep : PickWork → Bool) (g : Ticket × Task → Option α) :
    (s.pickTasks l keep).filterMap g
      = (List.finRange 256).filterMap fun t => (s.task t).bind fun y => if y.worksFor l keep = true then g (t, y) else none := by
  rw [pickTasks_eq, List.filterMap_filterMap]
  refine List.filterMap_congr fun t _ => ?_
  cases s.task t with
  | none => rfl
  | some y => cases mine : y.worksFor l keep <;> simp [Option.filter_some, mine]

theorem pickTasks_takesAway {keep : PickWork → Bool}
    (live : ∀ t y, s.task t = some y → y.worksFor l keep = true → y.kind = .pick ∧ y.state ≠ .cancelled) :
    TakesAway (s.pickTasks l keep) s (s.takeAll (s.pickTasks l keep)) := by
  refine takesAway_takeAll pickTasks_nodup fun p mem => ?_
  obtain ⟨stands, mine⟩ := mem_pickTasks_iff.mp mem
  exact ⟨stands, live _ _ stands mine⟩

/-- What taking away the pick tasks of a lane that pass a test leaves of each task. -/
theorem takeAll_pickTasks_task {keep : PickWork → Bool}
    (live : ∀ t y, s.task t = some y → y.worksFor l keep = true → y.state ≠ .cancelled) (t : Ticket) :
    (s.takeAll (s.pickTasks l keep)).task t
      = (s.task t).bind fun y => if y.worksFor l keep = true then y.takenAway else some y := by
  have out (none : ∀ y, s.task t = some y → y.worksFor l keep = false) : t ∉ (s.pickTasks l keep).map Prod.fst := by
    intro mem
    obtain ⟨⟨_, y⟩, listed, rfl⟩ := List.mem_map.mp mem
    obtain ⟨stands, mine⟩ := mem_pickTasks_iff.mp listed
    exact absurd mine (by rw [none y stands]; decide)
  cases stands : s.task t with
  | none => rw [takeAll_task_of_not_mem (out (by simp [stands])), stands]; rfl
  | some y =>
    cases mine : y.worksFor l keep with
    | false =>
      rw [takeAll_task_of_not_mem (out fun z e => by rw [stands] at e; cases e; exact mine), stands]
      simp [mine]
    | true =>
      rw [takeAll_task_of_mem pickTasks_nodup (mem_pickTasks_iff.mpr ⟨stands, mine⟩) (live t y stands mine)]
      simp [mine]

/-! ## ORDER_CANCEL -/

theorem takeOrderCancel_of_opened (state : (s.lane l).state = .opened) :
    s.takeOrderCancel rt l = (s.modLane l Lane.discard).respond rt .done [] := by
  rw [State.takeOrderCancel, state]

theorem takeOrderCancel_of_filling (state : (s.lane l).state = .filling) :
    s.takeOrderCancel rt l = (s.cancelFilling l).respond rt .done [] := by
  rw [State.takeOrderCancel, state]

theorem takeOrderCancel_of_complete (state : (s.lane l).state = .complete) :
    s.takeOrderCancel rt l
      = ((s.modLane l fun y => { y with state := .cancelled }).postLaneState lanePort l).respond rt .done [] := by
  rw [State.takeOrderCancel, state]

theorem takeOrderCancel_of_other (state : (s.lane l).state ∈ [.free, .cancelling, .cancelled, .released]) :
    s.takeOrderCancel rt l = s.refuse rt .wrongState := by
  simp only [List.mem_cons, List.not_mem_nil, or_false] at state
  rcases state with state | state | state | state <;> rw [State.takeOrderCancel, state]

theorem admitted_orderCancel (ready : s.readyFor h.port) (stock : h.port = stockPort) (v : Byte) :
    Admitted s (.orderCancel h v) h .orderCancel [v] :=
  admitted_stock ready stock rfl (Nat.le_of_ble_eq_true rfl) rfl

/-- The state after the work of a cancel of a FILLING lane. -/
def State.cancelled (s : State) (l : LaneId) (o : Order) : State :=
  ((s.takeAll (s.pickTasks l fun _ => true)).modLane l (Lane.modLines fun ls => ls.map Line.cancel)).endCancel l
    (cancelTarget (o.lines.map Line.cancel))

theorem cancelled_rest (s : State) (l : LaneId) (o : Order) : Lanes (s.takeAll (s.pickTasks l fun _ => true)) (s.cancelled l o) := by
  obtain ⟨tasks, carousels, discs, globals, due⟩ := endCancel_rest (l := l) (cancelTarget (o.lines.map Line.cancel))
    (s := (s.takeAll (s.pickTasks l fun _ => true)).modLane l (Lane.modLines fun ls => ls.map Line.cancel))
  exact ⟨tasks, carousels, discs, globals, due⟩

theorem takeAll_lane (ts : List (Ticket × Task)) (m : LaneId) : (s.takeAll ts).lane m = s.lane m :=
  congrArg (look · m) takeAll_lanes

theorem cancelled_lane_ne (other : m ≠ l) : (s.cancelled l o).lane m = s.lane m := by
  rw [State.cancelled, endCancel_lane_ne _ other, modLane_lane_ne _ _ other.symm, takeAll_lane]

theorem cancelled_lane (order : (s.lane l).order = some o) :
    (s.cancelled l o).lane l
      = if cancelTarget (o.lines.map Line.cancel) = .free then (s.lane l).discard
        else { s.lane l with state := cancelTarget (o.lines.map Line.cancel),
                             order := some { o with lines := o.lines.map Line.cancel } } := by
  rw [State.cancelled, endCancel_lane, modLane_lane_self, takeAll_lane, Lane.modLines, order]
  rfl

theorem cancelled_port (order : (s.lane l).order = some o) (q : PortId) :
    (s.cancelled l o).port q = postsTo (if ((s.cancelled l o).lane l).state = .free then [] else
      [(lanePort, .laneState l ((s.cancelled l o).lane l).state o.ref (s.lane l).strays)]) q
        ((s.takeAll (s.pickTasks l fun _ => true)).port q) := by
  rw [State.cancelled, endCancel_state, endCancel_port, modLane_lane_self, takeAll_lane, Lane.modLines_ref, Lane.ref, order]
  rfl

/-! ## The book after the cancel of a FILLING lane whose tasks are picks -/

theorem cancelled_carousel (c : CarouselId) :
    (s.cancelled l o).carousel c = (s.takeAll (s.pickTasks l fun _ => true)).carousel c :=
  congrArg (look · c) (cancelled_rest s l o).carousels

section Book

variable (taken : TakesAway (s.pickTasks l fun _ => true) s (s.takeAll (s.pickTasks l fun _ => true)))
include taken

theorem cancelled_bay (r : BayRef) :
    (s.cancelled l o).bay r
      = if r ∈ (s.pickTasks l fun _ => true).map (fun p => p.2.bay) then
          (s.bay r).unreserve (shareOf (s.pickTasks l fun _ => true) r) else s.bay r := by
  rw [← taken.bay, bay_eq, cancelled_carousel]; rfl

theorem cancelled_payload (c : CarouselId) (k : CarrierId) : ((s.cancelled l o).carrier c k).payload = (s.carrier c k).payload := by
  rw [← taken.payload, State.carrier, cancelled_carousel]; rfl

theorem cancelled_balance (c : CarouselId) :
    ((s.cancelled l o).carousel c).balance = (s.carousel c).balance ∧ ((s.cancelled l o).carousel c).cfg = (s.carousel c).cfg := by
  rw [cancelled_carousel, taken.carousel]; exact ⟨rfl, rfl⟩

theorem cancelled_discs : (s.cancelled l o).discs = s.discs ∧ (s.cancelled l o).globals = s.globals := by
  have rest := cancelled_rest s l o
  rw [rest.discs, rest.globals]
  exact ⟨(congrArg State.discs taken.fixed :), (congrArg State.globals taken.fixed :)⟩

end Book

theorem pickTasks_share (r : BayRef) :
    shareOf (s.pickTasks l fun _ => true) r = ((List.finRange 256).map fun t =>
      match s.task t with
      | some y => if y.work.map PickWork.lane = some l ∧ y.bay = r then y.count else 0
      | none => 0).sum := by
  rw [shareOf_pickTasks]
  simp only [worksFor_lane]

theorem pickTasks_any (x : TaskState) :
    ((s.pickTasks l fun _ => true).any fun p => p.2.state = x)
      = (List.finRange 256).any fun t => ((s.task t).map fun y =>
          decide (y.work.map PickWork.lane = some l ∧ y.state = x)) = some true := by
  rw [any_pickTasks (fun _ => true) fun y => y.state = x]
  simp only [Bool.decide_and, ← worksFor_lane, Bool.decide_eq_true]

theorem pickTasks_tombNotices :
    (s.pickTasks l fun _ => true).filterMap s.tombNotice
      = (List.finRange 256).filterMap fun t => (s.task t).bind fun y =>
          if y.work.map PickWork.lane = some l ∧ y.state = .presented then
            (s.carousel y.bay.carousel).cfg.station.map fun st => (stationPort st, Notice.taskCancelled y.bay.carousel t)
          else none := by
  rw [filterMap_pickTasks]
  simp only [State.tombNotice, worksFor_lane, ite_and]

/-- Settles O13: a cancel by lane state; the tasks of a FILLING lane are taken away one by one. -/
theorem orderCancelByLaneState : Obligations.OrderCancelByLaneState := by
  refine ⟨fun h l s ready stock => ?byState, fun h l o s ready stock filling order tombs => ?filling⟩
  case byState =>
    intro x i
    have admitted := admitted_orderCancel ready stock (byteOf l.val)
    have read := parse_orderCancel l
    refine ⟨fun opened => ?_, fun complete => ?_, fun other => ?_⟩
    · exact admitted.completes_of_take_respond _ read rfl (takeOrderCancel_of_opened (s := s.accepted h.port) opened) rfl
        rfl fun _ => rfl
    · refine admitted.completes_of_take_respond _ read rfl (takeOrderCancel_of_complete (s := s.accepted h.port) complete) rfl
        rfl fun q => ?_
      rw [State.postLaneState, post_postsTo, modLane_lane_self]; rfl
    · exact admitted.completes_of_take_refuse read rfl (takeOrderCancel_of_other (s := s.accepted h.port) other)
  case filling =>
    intro mine share
    have lane_eq {y : Task} : y.worksFor l (fun _ => true) = true ↔ mine y := worksFor_lane
    have live {t : Ticket} {y : Task} (stands : s.task t = some y) (own : mine y) : y.state ≠ .cancelled := fun tomb => by
      simp only [mine, tombs t y stands tomb] at own
      exact absurd own (by simp)
    have runs := (admitted_orderCancel ready stock (byteOf l.val)).exec_eq_take (parse_orderCancel l) rfl
    have takes (rt : ReplyTo) : (s.accepted h.port).take rt (.orderCancel l)
        = ((s.accepted h.port).cancelled l o).respond rt .done [] := by
      rw [State.take, takeOrderCancel_of_filling (s := s.accepted h.port) filling,
        cancelFilling_eq (s := s.accepted h.port) order]
      rfl
    rw [takes] at runs
    have rest := cancelled_rest (s.accepted h.port) l o
    have task (t : Ticket) : ((s.accepted h.port).cancelled l o).task t
        = (s.task t).bind fun y => if y.worksFor l (fun _ => true) = true then y.takenAway else some y := by
      rw [State.task, rest.tasks]
      exact takeAll_pickTasks_task (s := s.accepted h.port) (fun t y stands own => live stands (lane_eq.mp own)) t
    refine ⟨_, runs, fun t y w stands work own => ?_, fun t foreign => ?_, fun t y stands own => ?_,
      fun m other => cancelled_lane_ne (s := s.accepted h.port) other, ?_, fun picks => ?_⟩
    · have stands : ((s.accepted h.port).cancelled l o).task t = some y := stands
      rw [task, Option.bind_eq_some_iff] at stands
      obtain ⟨z, _, left⟩ := stands
      split at left
      · simp only [Task.takenAway] at left
        split at left <;> cases left
        cases work
      · next other =>
        cases left
        exact other (lane_eq.mpr (by simp only [mine, work, Option.map_some, own]))
    · show ((s.accepted h.port).cancelled l o).task t = s.task t
      rw [task]
      cases stands : s.task t with
      | none => rfl
      | some y =>
        refine if_neg fun own => ?_
        obtain ⟨w, work, own⟩ := Option.map_eq_some_iff.mp (lane_eq.mp own)
        exact foreign y w stands work own
    · show ((s.accepted h.port).cancelled l o).task t = _
      rw [task, stands]
      exact if_pos (lane_eq.mpr own)
    · have lane := cancelled_lane (s := s.accepted h.port) order
      rw [cancelTarget_map_cancel] at lane
      have lane' : ∀ rt, (((s.accepted h.port).cancelled l o).respond rt .done []).lane l
        = ((s.accepted h.port).cancelled l o).lane l := fun _ => rfl
      rw [lane', lane]
      split_ifs <;> simp_all [Lane.discard]
    · have taken : TakesAway ((s.accepted h.port).pickTasks l fun _ => true) (s.accepted h.port)
          ((s.accepted h.port).takeAll ((s.accepted h.port).pickTasks l fun _ => true)) :=
        pickTasks_takesAway fun t y stands own => ⟨picks t y stands (lane_eq.mp own), live stands (lane_eq.mp own)⟩
      refine ⟨fun r => ⟨fun none => ?_, fun t y stands own same => ?_⟩, cancelled_payload (s := s.accepted h.port) taken,
        cancelled_balance (s := s.accepted h.port) taken, (cancelled_discs taken).1, (cancelled_discs taken).2, ?_, ?_, fun q => ?_⟩
      · refine (cancelled_bay (s := s.accepted h.port) taken r).trans (if_neg fun mem => ?_)
        obtain ⟨⟨t, y⟩, listed, same⟩ := List.mem_map.mp mem
        obtain ⟨stands, own⟩ := mem_pickTasks_iff.mp listed
        exact none t y stands (lane_eq.mp own) same
      · refine (cancelled_bay (s := s.accepted h.port) taken r).trans ((if_pos ?_).trans ?_)
        · exact List.mem_map.mpr ⟨(t, y), mem_pickTasks_iff.mpr ⟨stands, lane_eq.mpr own⟩, same⟩
        · rw [pickTasks_share]; rfl
      · rw [respond_due, rest.due, taken.due, ← pickTasks_any]; rfl
      · rw [respond_due, rest.due, taken.due, ← pickTasks_any]; rfl
      · refine respond_portAfter s h .orderCancel _ .done [] _ (fun q => ?_) q
        rw [cancelled_port (s := s.accepted h.port) order, taken.port, ← postsTo_append, pickTasks_tombNotices, accepted_port]
        rfl

end Cancel

end Sys2Proof.Machine

/-! Put-away (chapter 3): PUT_REQUEST, PUT_CONFIRM and PUT_CANCEL, and the tasks that join the call planner. -/

namespace Sys2Proof

open Machine (byteOf)

theorem optionalIndex?_carousel (pref : Option CarouselId) :
    optionalIndex? 6 ((pref.map fun c => byteOf c.val).getD 0xFF) = some pref := by
  cases pref with
  | none => rfl
  | some c =>
    have named : byteOf c.val ≠ 0xFF := fun e => by
      have := congrArg BitVec.toNat e
      rw [byteOf_toNat (by omega)] at this
      simp at this
      omega
    show optionalIndex? 6 (byteOf c.val) = _
    rw [optionalIndex?, if_neg named, index?_carousel]; rfl

theorem parse_putRequest (a : BitVec 24) (w m d : BitVec 16) (n : Nat) (pref : Option CarouselId)
    (ha : 1 ≤ a.toNat ∧ a.toNat ≤ 999999) (hw : 1 ≤ w.toNat ∧ w.toNat ≤ 4095) (hm : 1 ≤ m.toNat ∧ m.toNat ≤ 1000)
    (hd : 100 ≤ d.toNat ∧ d.toNat ≤ 500) (hn : 1 ≤ n ∧ n ≤ 15) :
    parseRequest .putRequest (field 3 a ++ field 2 w ++ [byteOf n] ++ field 2 m ++ field 2 d
        ++ [(pref.map fun c => byteOf c.val).getD 0xFF])
      = some (.putRequest ⟨a.toNat, w.toNat, m.toNat, d.toNat⟩ n pref) := by
  rw [field3, field2, field2, field2]
  show (do
    let lot ← lot? (natOf _) (natOf _) (natOf _) (natOf _)
    let n ← within? 1 15 _
    pure (Request.putRequest lot n (← optionalIndex? 6 _))) = _
  rw [natOf_field3, natOf_field2, natOf_field2, natOf_field2, lot?_of ha hw hm hd, byteOf_toNat (by omega), within?_of hn,
    optionalIndex?_carousel]
  rfl

namespace Machine

/-! ## Responses -/

theorem place_answers (x : Port) (code tag : Byte) (o : ReplyCode) (body : List Byte) :
    (x.place code tag o body).answers ⟨code, tag, o, x.flags, body⟩ := by
  by_cases busy : x.sending ≠ none ∨ x.held = true
  · rw [place_busy busy]; exact .inl rfl
  · rw [not_or, not_not, Bool.not_eq_true] at busy
    rw [place_free ⟨busy.1, busy.2⟩]; exact .inr rfl

theorem respond_answers (s : State) (rt : ReplyTo) (o : ReplyCode) (body : List Byte) :
    ∃ flags, ((s.respond rt o body).port rt.port).answers ⟨responseCode rt.code, rt.tag, o, flags, body⟩ := by
  rw [respond_port, if_pos rfl]
  exact ⟨_, place_answers ..⟩

/-! ## A task that joins the call planner (R44, R68, R86) -/

section Joins

variable {s t : State} {c : CarouselId} {k : CarrierId} {i : Ticket} {x : Task}

/-- A state without its tasks, carousels, ports, stamp counter and what is due. -/
def State.backdrop (s : State) : State :=
  { s with tasks := Vector.replicate 256 none, carousels := State.reset.carousels, due := {},
           ports := Vector.replicate 12 (Port.atReset false), stamp := 0 }

/-- What a task that joins the planner leaves: it may be PRESENTED at once, or its carrier has a call. -/
structure Joins (i : Ticket) (x : Task) (s t : State) : Prop where
  backdrop : t.backdrop = s.backdrop
  carousel : ∀ c, t.carousel c = { s.carousel c with calls := (t.carousel c).calls }
  others : ∀ u, u ≠ i → t.task u = s.task u
  own : ∃ now, t.task i = some { x with state := now } ∧ (now = x.state ∨ now = .presented)
    ∧ ((s.carousel x.bay.carousel).presents x.bay.carrier = false → now = x.state)
  called : (s.carousel x.bay.carousel).presents x.bay.carrier = false →
    ((t.carousel x.bay.carousel).callFor x.bay.carrier).isSome = true

theorem ensureCall_of_called (called : (s.carousel c).presents k = true ∨ ((s.carousel c).callFor k).isSome = true) :
    s.ensureCall c k = s.dueSelect := if_pos (by simpa using called)

theorem ensureCall_of_uncalled (away : (s.carousel c).presents k = false) (uncalled : ((s.carousel c).callFor k).isSome = false) :
    s.ensureCall c k = s.raiseCall c k none false := if_neg (by simp [away, uncalled])

theorem callFor_append_self (x : Carousel) (q : Call) :
    ({ x with calls := x.calls ++ [q] } : Carousel).callFor q.carrier ≠ none := by
  rw [← Option.isSome_iff_ne_none, callFor_isSome_iff]
  exact ⟨q, by simp, rfl⟩

theorem joins_joinPlanner (stands : s.task i = some x) : Joins i x s (s.joinPlanner i) := by
  have stays {v : State} (tasks : v.tasks = s.tasks) : v.task i = some { x with state := x.state } := by
    rw [State.task, tasks]; exact stands
  cases presents : (s.carousel x.bay.carousel).presents x.bay.carrier with
  | true =>
    by_cases shown : x.state = .queued ∧ ¬ s.isHeld x = true
    · have joined : s.joinPlanner i = s.presentTask i x := by simp only [State.joinPlanner, stands, presents, if_true, if_pos shown]
      rw [joined, State.presentTask]
      refine ⟨?_, fun c => ?_, fun u other => ?_, ⟨.presented, ?_, .inr rfl, fun away => by rw [presents] at away; cases away⟩,
        fun away => by rw [presents] at away; cases away⟩
      · unfold State.postStation; split <;> rfl
      · rw [postStation_carousel]; rfl
      · rw [postStation_task, setTask_task_ne _ _ other.symm]
      · rw [postStation_task, setTask_task_self]
    · have joined : s.joinPlanner i = s := by simp only [State.joinPlanner, stands, presents, if_true, if_neg shown]
      rw [joined]
      exact ⟨rfl, fun _ => rfl, fun _ _ => rfl, ⟨x.state, stays rfl, .inl rfl, fun _ => rfl⟩,
        fun away => by rw [presents] at away; cases away⟩
  | false =>
    have joined : s.joinPlanner i = s.ensureCall x.bay.carousel x.bay.carrier := by
      simp [State.joinPlanner, stands, presents]
    rw [joined]
    cases called : ((s.carousel x.bay.carousel).callFor x.bay.carrier).isSome with
    | true =>
      rw [ensureCall_of_called (.inr called)]
      exact ⟨rfl, fun _ => rfl, fun _ _ => rfl, ⟨x.state, stays rfl, .inl rfl, fun _ => rfl⟩, fun _ => called⟩
    | false =>
      rw [ensureCall_of_uncalled presents called]
      refine ⟨rfl, fun c => ?_, fun _ _ => rfl, ⟨x.state, stays rfl, .inl rfl, fun _ => rfl⟩, fun _ => ?_⟩
      · rw [raiseCall_carousel]; split <;> rfl
      · rw [raiseCall_carousel, if_pos rfl, Option.isSome_iff_ne_none]
        exact callFor_append_self (s.carousel x.bay.carousel) ⟨x.bay.carrier, s.stamp, 0, none, false⟩

namespace Joins

variable (h : Joins i x s t)
include h

theorem lanes : t.lanes = s.lanes := (congrArg State.lanes h.backdrop :)
theorem lane (l : LaneId) : t.lane l = s.lane l := by rw [State.lane, h.lanes]; rfl
theorem discs : t.discs = s.discs := (congrArg State.discs h.backdrop :)
theorem globals : t.globals = s.globals := (congrArg State.globals h.backdrop :)
theorem starved : t.starved = s.starved := (congrArg State.starved h.backdrop :)
theorem nextTicket : t.nextTicket = s.nextTicket := (congrArg State.nextTicket h.backdrop :)
theorem carrier (c : CarouselId) (k : CarrierId) : t.carrier c k = s.carrier c k := by rw [State.carrier, h.carousel]; rfl
theorem bay (r : BayRef) : t.bay r = s.bay r := by rw [State.bay, h.carrier]; rfl
theorem motion (c : CarouselId) : t.motion c = s.motion c := by rw [State.motion, h.carousel]; rfl
theorem cfg (c : CarouselId) : (t.carousel c).cfg = (s.carousel c).cfg := by rw [h.carousel]

end Joins

end Joins

end Machine

end Sys2Proof

/-! PUT_REQUEST, PUT_CONFIRM and PUT_CANCEL (chapter 3). -/

namespace Sys2Proof.Machine

section PutAway

variable {s : State} {h : Header} {rt : ReplyTo} {t : Ticket} {x : Task} {lot : Lot} {count : Nat}
  {pref : Option CarouselId} {y : Candidate} {c : CarouselId} {k : CarrierId}

/-! ## PUT_REQUEST (R38, R43, R44) -/

/-- The state in which the new put task joins the planner. -/
def State.promisedTo (s : State) (t : Ticket) (lot : Lot) (y : Candidate) : State :=
  ((s.changeBay y.bay (promised lot y.count)).storeTask t ⟨.put, y.bay, y.count, none, s.stamp, .queued⟩).bumpStamp

theorem stored_carousel (z : Task) (c : CarouselId) : ((s.storeTask t z).bumpStamp).carousel c = s.carousel c := rfl
theorem stored_bay (z : Task) (r : BayRef) : ((s.storeTask t z).bumpStamp).bay r = s.bay r := rfl
theorem stored_lanes (z : Task) : ((s.storeTask t z).bumpStamp).lanes = s.lanes := rfl
theorem stored_discs (z : Task) : ((s.storeTask t z).bumpStamp).discs = s.discs := rfl
theorem stored_globals (z : Task) : ((s.storeTask t z).bumpStamp).globals = s.globals := rfl
theorem stored_starved (z : Task) : ((s.storeTask t z).bumpStamp).starved = s.starved := rfl
theorem stored_task_ne (z : Task) {u : Ticket} (other : u ≠ t) : ((s.storeTask t z).bumpStamp).task u = s.task u :=
  setTask_task_ne s _ other.symm

theorem placePut_eq : s.placePut t lot y = ((s.promisedTo t lot y).joinPlanner t).dueSelect := by
  rw [State.placePut, changeBay_stamp]; rfl

theorem promisedTo_joins : Joins t ⟨.put, y.bay, y.count, none, s.stamp, .queued⟩ (s.promisedTo t lot y)
    ((s.promisedTo t lot y).joinPlanner t) :=
  joins_joinPlanner (setTask_task_self ..)

theorem promisedTo_carousel (c : CarouselId) :
    (s.promisedTo t lot y).carousel c = (s.changeBay y.bay (promised lot y.count)).carousel c := by
  rw [State.promisedTo, stored_carousel]

theorem promisedTo_presents :
    ((s.promisedTo t lot y).carousel c).presents k = (s.carousel c).presents k := by
  obtain ⟨_, _, _, face, _⟩ := changeBay_rest s y.bay (promised lot y.count) c
  rw [promisedTo_carousel, Carousel.presents, face, Carousel.presents]

theorem promisedTo_bay (r : BayRef) :
    (s.promisedTo t lot y).bay r = (s.changeBay y.bay (promised lot y.count)).bay r := by
  rw [State.promisedTo, stored_bay]

theorem promisedTo_task_ne {u : Ticket} (other : u ≠ t) : (s.promisedTo t lot y).task u = s.task u := by
  rw [State.promisedTo, stored_task_ne _ other, changeBay_task]

theorem promisedTo_nextTicket : (s.promisedTo t lot y).nextTicket = t + 1 := rfl

theorem promisedTo_lanes : (s.promisedTo t lot y).lanes = s.lanes := by
  rw [State.promisedTo, stored_lanes, changeBay_lanes]

theorem promisedTo_discs : (s.promisedTo t lot y).discs = s.discs := by
  rw [State.promisedTo, stored_discs, changeBay_discs]

theorem promisedTo_globals : (s.promisedTo t lot y).globals = s.globals := by
  rw [State.promisedTo, stored_globals, changeBay_globals]

theorem promisedTo_starved : (s.promisedTo t lot y).starved = s.starved := by
  rw [State.promisedTo, stored_starved, changeBay_starved]

theorem promisedTo_cfg (c : CarouselId) :
    ((s.promisedTo t lot y).carousel c).cfg = (s.carousel c).cfg ∧ (s.promisedTo t lot y).motion c = s.motion c := by
  obtain ⟨motion, cfg, _⟩ := changeBay_rest s y.bay (promised lot y.count) c
  rw [State.motion, promisedTo_carousel]
  exact ⟨cfg, motion⟩

theorem promised_settleEmpty (positive : 1 ≤ y.count) (b : Bay) :
    (promised lot y.count b).settleEmpty = { b with lot := some lot, incoming := b.incoming + y.count } :=
  if_neg fun ⟨_, _, incoming⟩ => by simp only [promised] at incoming; omega

theorem takePutRequest_placed (free : s.freeTicket? = some t)
    (best : best? Candidate.better (s.candidates lot count pref) = some y) :
    s.takePutRequest rt lot count pref
      = (s.placePut t lot y).respond rt (if y.count = count then .done else .doneClamped) (putBody t y.bay y.count) := by
  simp only [State.takePutRequest, free, best]

theorem takePutRequest_noSpace (none : s.freeTicket? = none) : s.takePutRequest rt lot count pref = s.refuse rt .noSpace := by
  simp only [State.takePutRequest, none]

theorem takePutRequest_noRoom (free : s.freeTicket? ≠ none)
    (none : best? Candidate.better (s.candidates lot count pref) = none) :
    s.takePutRequest rt lot count pref = s.refuse rt .noRoom := by
  obtain ⟨t, free⟩ := Option.ne_none_iff_exists'.mp free
  simp only [State.takePutRequest, free, none]

theorem putBody_eq (t : Ticket) (r : BayRef) (n : Nat) :
    putBody t r n = [byteOf t.val, byteOf r.carousel.val, byteOf r.carrier.val, byteOf r.bay.val, byteOf n] := by
  simp [putBody, BayRef.bytes, u8, bytesOf, byteOf]

/-- Settles O20: one change of the bay, and one new task that joins the planner. -/
theorem putRequestPromisesTyresToTheBestBay : Obligations.PutRequestPromisesTyresToTheBestBay := by
  intro h article week mass width count pref s ready stock a1 a2 w1 w2 m1 m2 d1 d2 n1 n2 lot i
  have admitted : Admitted s i h .putRequest _ := admitted_stock ready stock rfl (Nat.le_of_ble_eq_true rfl) rfl
  have read := parse_putRequest article week mass width count pref ⟨a1, a2⟩ ⟨w1, w2⟩ ⟨m1, m2⟩ ⟨d1, d2⟩ ⟨n1, n2⟩
  refine ⟨fun none => ?_, fun free none => ?_, fun t x free best => ?_⟩
  · exact admitted.completes_of_take_refuse read rfl (takePutRequest_noSpace (s := s.accepted h.port) none)
  · exact admitted.completes_of_take_refuse read rfl (takePutRequest_noRoom (s := s.accepted h.port) free none)
  · have runs := admitted.exec_eq_take read rfl
    rw [State.take, takePutRequest_placed (s := s.accepted h.port) free best, placePut_eq] at runs
    have joins := promisedTo_joins (s := s.accepted h.port) (t := t) (lot := lot) (y := x)
    have positive := (candidate_count_pos (best?_mem best)).1
    have presents : (((s.accepted h.port).promisedTo t lot x).carousel x.bay.carousel).presents x.bay.carrier
        = (s.carousel x.bay.carousel).presents x.bay.carrier := promisedTo_presents
    have bay (r : BayRef) : ((s.accepted h.port).promisedTo t lot x).bay r = if r = x.bay then
        { s.bay r with lot := some lot, incoming := (s.bay r).incoming + x.count } else s.bay r := by
      rw [promisedTo_bay, changeBay_bay]
      by_cases e : r = x.bay
      · rw [if_pos e, if_pos e, promised_settleEmpty positive, e]; rfl
      · rw [if_neg e, if_neg e]; rfl
    have others {u : Ticket} (other : u ≠ t) : ((s.accepted h.port).promisedTo t lot x).task u = s.task u :=
      promisedTo_task_ne other
    have lanes := promisedTo_lanes (s := s.accepted h.port) (t := t) (lot := lot) (y := x)
    have discs := promisedTo_discs (s := s.accepted h.port) (t := t) (lot := lot) (y := x)
    have globals := promisedTo_globals (s := s.accepted h.port) (t := t) (lot := lot) (y := x)
    have starved := promisedTo_starved (s := s.accepted h.port) (t := t) (lot := lot) (y := x)
    have next := promisedTo_nextTicket (s := s.accepted h.port) (t := t) (lot := lot) (y := x)
    have cfg := promisedTo_cfg (s := s.accepted h.port) (t := t) (lot := lot) (y := x)
    generalize (s.accepted h.port).promisedTo t lot x = v at *
    generalize v.joinPlanner t = z at runs joins
    refine ⟨_, runs, fun r => (joins.bay r).trans (bay r), ?_, fun u other => (joins.others u other).trans (others other),
      joins.nextTicket.trans next, fun away => joins.called (presents.trans away), joins.lanes.trans lanes,
      joins.discs.trans discs, joins.globals.trans globals, joins.starved.trans starved,
      fun c => ⟨(joins.cfg c).trans (cfg c).1, (joins.motion c).trans (cfg c).2⟩, ?_⟩
    swap
    · rw [← putBody_eq]
      exact respond_answers z.dueSelect ⟨h.port, RequestCode.byte .putRequest, h.tag⟩ _ _
    obtain ⟨now, task, which, away⟩ := joins.own
    exact ⟨now, task, which, fun e => away (presents.trans e)⟩

/-! ## PUT_CANCEL (R50) -/

theorem freeTask_tasks (stands : s.task t = some x) : (s.freeTask t).tasks = put s.tasks t none := by
  rw [State.freeTask, stands]
  exact pruneCall_tasks ..

theorem queuedOn_of_tasks {u : State} (tasks : u.tasks = s.tasks) : u.queuedOn c k = s.queuedOn c k := by
  rw [State.queuedOn, State.allTasks, State.queuedOn, State.allTasks]
  simp only [State.task, tasks]

/-- The carrier has a call, without scope and without a QUEUED task. -/
def State.CallIsEmpty (s : State) (c : CarouselId) (k : CarrierId) : Prop :=
  (s.carousel c).callFor k ≠ none ∧ ((s.carousel c).callFor k).bind Call.scope = none ∧ s.queuedOn c k = []

theorem pruneCall_of_empty (empty : s.CallIsEmpty c k) : s.pruneCall c k = s.removeCall c k := by
  obtain ⟨called, noScope, noTask⟩ := empty
  obtain ⟨q, called⟩ := Option.ne_none_iff_exists'.mp called
  rw [called, Option.bind_some] at noScope
  simp [State.pruneCall, called, noScope, noTask]

theorem pruneCall_of_not_empty (full : ¬ s.CallIsEmpty c k) (d : CarouselId) : (s.pruneCall c k).carousel d = s.carousel d := by
  rw [State.pruneCall]
  split
  · rfl
  · next q called =>
    rw [if_neg]
    · rfl
    · simp only [Bool.and_eq_true, Option.isNone_iff_eq_none, List.isEmpty_iff, not_and]
      exact fun noScope noTask => full ⟨by simp [called], by rw [called, Option.bind_some, noScope], noTask⟩

/-- The carousel after a task was freed: with nothing left its call goes, and with it the choice. -/
theorem freeTask_carousel (stands : s.task t = some x) :
    let c := x.bay.carousel
    let k := x.bay.carrier
    let gone := (s.carousel c).callFor k ≠ none ∧ ((s.carousel c).callFor k).bind Call.scope = none
      ∧ (s.freeTask t).queuedOn c k = []
    (gone → (s.freeTask t).carousel c = { s.carousel c with
        calls := (s.carousel c).calls.filter fun q => q.carrier ≠ k
        motion := if (s.motion c).state = .waitPermit ∧ (s.motion c).chosen.map Choice.carrier = some k then
          { s.motion c with state := .idle, chosen := none } else s.motion c })
      ∧ (¬ gone → (s.freeTask t).carousel c = s.carousel c) := by
  intro c k gone
  have freed : s.freeTask t = ((s.setTask t none).dueFreed).pruneCall c k := by rw [State.freeTask, stands]
  have queued : (s.freeTask t).queuedOn c k = ((s.setTask t none).dueFreed).queuedOn c k :=
    queuedOn_of_tasks (freeTask_tasks stands)
  have gone_iff : gone ↔ ((s.setTask t none).dueFreed).CallIsEmpty c k := by
    simp only [gone, queued]; rfl
  rw [gone_iff]
  refine ⟨fun empty => ?_, fun full => ?_⟩
  · rw [freed, pruneCall_of_empty empty, removeCall_carousel, if_pos rfl]; rfl
  · rw [freed, pruneCall_of_not_empty full]; rfl

theorem takePutCancel_refused (stands : s.task t = some x) (other : x.kind = .pick ∨ x.state ≠ .queued) :
    s.takePutCancel rt t = s.refuse rt .wrongState := by
  simp only [State.takePutCancel, stands]
  refine if_neg fun ⟨put_, queued⟩ => ?_
  rcases other with pick | away
  · rw [put_] at pick; cases pick
  · exact away queued

theorem takePutCancel_taken (stands : s.task t = some x) (put_ : x.kind = .put) (queued : x.state = .queued) :
    s.takePutCancel rt t = (((s.changeBay x.bay fun b => { b with incoming := b.incoming - x.count }).freeTask
      t).releaseHolds).respond rt .done [] := by
  simp only [State.takePutCancel, stands]
  rw [if_pos ⟨put_, queued⟩, State.cancelPut, giveBack_of_put put_]

/-- Settles O23: one change of the bay, and a task freed. -/
theorem putCancelWithdrawsThePromise : Obligations.PutCancelWithdrawsThePromise := by
  intro h t s ready stock i
  have admitted : Admitted s i h .putCancel _ := admitted_stock ready stock rfl (Nat.le_of_ble_eq_true rfl) rfl
  have read := parse_putCancel t
  refine ⟨fun none => ?_, fun x stands => ⟨fun other => ?_, fun put_ queued => ?_⟩⟩
  · refine admitted.completes_of_take_refuse read rfl ?_
    rw [State.take, State.takePutCancel, show (s.accepted h.port).task t = Option.none from none]
  · exact admitted.completes_of_take_refuse read rfl (takePutCancel_refused (s := s.accepted h.port) stands other)
  · intro f
    have runs := admitted.exec_eq_take read rfl
    rw [State.take, takePutCancel_taken (s := s.accepted h.port) stands put_ queued] at runs
    have frees := Frees.freeTask ((s.accepted h.port).changeBay x.bay f) t
    have stands' : ((s.accepted h.port).changeBay x.bay f).task t = some x := (changeBay_task ..).trans stands
    obtain ⟨motion, _, calls, _⟩ := changeBay_rest (s.accepted h.port) x.bay f x.bay.carousel
    obtain ⟨empty, full⟩ := freeTask_carousel stands'
    have called : (((s.accepted h.port).changeBay x.bay f).carousel x.bay.carousel).callFor x.bay.carrier
        = (s.carousel x.bay.carousel).callFor x.bay.carrier := by
      rw [Carousel.callFor, calls]; rfl
    rw [called] at empty full
    refine ⟨_, runs, ?_, fun r => ?_, frees.lanes.trans (changeBay_lanes ..), frees.discs.trans (changeBay_discs ..),
      frees.stamp.trans (changeBay_stamp ..), fun c other => ?_, ⟨?_, ?_⟩, fun q => ?_⟩
    · rw [freeTask_tasks stands', changeBay_tasks]; rfl
    · rw [frees.bay, changeBay_bay]
      by_cases e : r = x.bay
      · rw [if_pos e, if_pos e, e]; rfl
      · rw [if_neg e, if_neg e]; rfl
    · rw [freeTask_other stands' other, changeBay_carousel, if_neg (Ne.symm other)]; rfl
    · split
      · next gone => rw [empty gone]; exact congrArg (List.filter _) calls
      · next stays => rw [full stays]; exact calls
    · by_cases gone : (s.carousel x.bay.carousel).callFor x.bay.carrier ≠ none
          ∧ ((s.carousel x.bay.carousel).callFor x.bay.carrier).bind Call.scope = none
          ∧ (((s.accepted h.port).changeBay x.bay f).freeTask t).queuedOn x.bay.carousel x.bay.carrier = []
      · rw [State.motion, empty gone]
        have motion : ((s.accepted h.port).changeBay x.bay f).motion x.bay.carousel = (s.carousel x.bay.carousel).motion := motion
        simp only [motion]
        by_cases waits : (s.carousel x.bay.carousel).motion.state = .waitPermit
            ∧ (s.carousel x.bay.carousel).motion.chosen.map Choice.carrier = some x.bay.carrier
        · rw [if_pos waits]; exact (if_pos ⟨gone, waits⟩).symm
        · rw [if_neg waits]; exact (if_neg fun e => waits e.2).symm
      · rw [State.motion, full gone]
        exact motion.trans (if_neg fun e => gone e.1).symm
    · rw [frees.port, changeBay_port, accepted_port]; rfl

/-! ## PUT_CONFIRM (R46 to R49) -/

/-- A presented carrier has no call (R76). -/
theorem callFor_of_presents (one : s.oneCallPerCarrier) (presents : (s.carousel c).presents k = true) :
    (s.carousel c).callFor k = none := by
  obtain ⟨p, face, carrier⟩ := Option.map_eq_some_iff.mp (presents_iff.mp presents)
  rw [← Option.not_isSome_iff_eq_none, callFor_isSome_iff]
  rintro ⟨q, mem, same⟩
  exact (one c).2 p face (List.mem_map.mpr ⟨q, mem, same.trans carrier.symm⟩)

/-- A task at the face is freed after a change of its bay, and no call goes. -/
theorem freeTask_changeBay_at_face (one : s.oneCallPerCarrier) (stands : s.task t = some x)
    (presents : (s.carousel x.bay.carousel).presents x.bay.carrier = true) (f : Bay → Bay) :
    (s.changeBay x.bay f).freeTask t = ((s.changeBay x.bay f).setTask t none).dueFreed := by
  refine freeTask_presented _ t x ((changeBay_task ..).trans stands) ?_
  obtain ⟨_, _, calls, _⟩ := changeBay_rest s x.bay f x.bay.carousel
  rw [Carousel.callFor, calls]
  exact callFor_of_presents one presents

/-- PUT_REMAINDER for the tyres of a put that were not stored (R48). -/
def remainderPosts (t : Ticket) (lot : Option Lot) (n j : Nat) : List (PortId × Notice) :=
  if j < n then [(stockPort, .putRemainder t ((lot.map Lot.article).getD 0) ((lot.map Lot.week).getD 0) (n - j))] else []

/-- What a PUT_CONFIRM of j of n tyres does once the task is freed: the remainder is reported, and a pass and the test of the
face are due (R47, R48). -/
def State.reportStored (s : State) (t : Ticket) (lot : Option Lot) (n j : Nat) : State :=
  let s2 := if j < n then s.postRemainder t lot (n - j) else s
  (if j > 0 then s2.duePass else s2).dueFace

theorem reportStored_inner (o : Option Lot) (n j : Nat) : (s.reportStored t o n j).inner = s.inner := by
  unfold State.reportStored; split_ifs <;> rfl

theorem reportStored_due (o : Option Lot) (n j : Nat) :
    (s.reportStored t o n j).due = { s.due with face := true, pass := s.due.pass || decide (0 < j) } := by
  unfold State.reportStored
  split_ifs <;> simp_all [State.dueFace, State.duePass, State.postRemainder]

theorem reportStored_port (o : Option Lot) (n j : Nat) (q : PortId) :
    (s.reportStored t o n j).port q = postsTo (remainderPosts t o n j) q (s.port q) := by
  unfold State.reportStored remainderPosts
  split_ifs
  · exact post_postsTo ..
  · exact post_postsTo ..
  · rfl
  · rfl

/-- The work of a PUT_CONFIRM of j before its answer. -/
def State.storePut (s : State) (t : Ticket) (x : Task) (j : Nat) : State :=
  ((s.changeBay x.bay (storedBay j x.count)).freeTask t).reportStored t (s.bay x.bay).lot x.count j

theorem takePutConfirm_taken {j : Nat} (stands : s.task t = some x) (own : s.stationSends rt.port x.bay.carousel = true)
    (presented : x.state = .presented) (put_ : x.kind = .put) (fits : j ≤ x.count) :
    s.takePutConfirm rt t j = ((s.storePut t x j).releaseHolds.respond rt .done []).settlePass := by
  simp only [State.takePutConfirm, stands, own, presented, put_, not_true_eq_false, if_false, reduceCtorEq, ne_eq,
    gt_iff_lt, not_lt.mpr fits]
  rfl

section Stored

variable {j : Nat} (one : s.oneCallPerCarrier) (stands : s.task t = some x)
  (presents : (s.carousel x.bay.carousel).presents x.bay.carrier = true)
include one stands presents

theorem storePut_eq :
    s.storePut t x j = (((s.changeBay x.bay (storedBay j x.count)).setTask t none).dueFreed).reportStored t (s.bay x.bay).lot
      x.count j := by
  rw [State.storePut, freeTask_changeBay_at_face one stands presents]

theorem storePut_inner : (s.storePut t x j).inner = ((s.booked x.bay (storedBay j x.count)).setTask t none).inner := by
  rw [storePut_eq one stands presents, reportStored_inner, dueFreed_inner, setTask_inner, changeBay_inner, setTask_inner]

theorem storePut_due :
    (s.storePut t x j).due =
      { s.due with
        unhold := s.due.unhold || (s.carousel x.bay.carousel).flips x.bay.carrier x.bay.bay (storedBay j x.count),
        select := s.due.select || (s.carousel x.bay.carousel).flips x.bay.carrier x.bay.bay (storedBay j x.count),
        face := true, freed := true, pass := s.due.pass || decide (0 < j) } := by
  rw [storePut_eq one stands presents, reportStored_due, State.dueFreed, setTask_due, changeBay_due]

theorem storePut_port (q : PortId) :
    (s.storePut t x j).port q
      = postsTo (s.bookPosts x.bay (storedBay j x.count) ++ remainderPosts t (s.bay x.bay).lot x.count j) q (s.port q) := by
  rw [storePut_eq one stands presents, reportStored_port, postsTo_append, dueFreed_port, State.port, setTask_ports,
    ← changeBay_port]
  rfl

end Stored

/-- Settles O21: one change of the bay and a task freed at the face. -/
theorem putConfirmStoresTheTyres : Obligations.PutConfirmStoresTheTyres := by
  intro h t j x st s ready station stands put_ presented own fits byte one presents f lot remainder
  have runs := (admitted_putConfirm ready station (byteOf t.val) (byteOf j)).exec_eq_take (parse_putConfirm t j byte) rfl
  have sends : (s.accepted h.port).stationSends h.port x.bay.carousel = true := by
    rw [station]; exact stationSends_iff.mpr own
  rw [State.take, takePutConfirm_taken (s := s.accepted h.port) stands sends presented put_ fits] at runs
  have remainder_eq : remainder = remainderPosts t ((s.accepted h.port).bay x.bay).lot x.count j := by
    simp only [remainder, remainderPosts, accepted_bay, lot]
    cases (s.bay x.bay).lot <;> rfl
  refine ⟨_, runs, ?_, ?_, fun q => ?_⟩
  · rw [storePut_inner (s := s.accepted h.port) one stands presents, setTask_inner, setTask_inner, State.booked, State.booked,
      modCarousel_inner, modCarousel_inner, accepted_inner]
    rfl
  · rw [storePut_due (s := s.accepted h.port) one stands presents, accepted_due]; simp; rfl
  · rw [storePut_port (s := s.accepted h.port) one stands presents, accepted_port, remainder_eq]; rfl

end PutAway

end Sys2Proof.Machine

/-! Allocating tyres of a bay (R65, R67, R68), and the lines and sets that counters stand in (4.2). -/

namespace Sys2Proof.Machine

section Allocation

variable {s : State} {r : BayRef} {a : Nat} {l m : LaneId} {line i : Nat} {set : Option Nat} {urgent : Bool}

/-! ## Lines and sets -/

theorem modLine_lane_self (f : Line → Line) : (s.modLine l i f).lane l = (s.lane l).modLines fun ls => ls.modify i f :=
  modLane_lane_self ..

theorem modLine_lane_ne (f : Line → Line) (other : m ≠ l) : (s.modLine l i f).lane m = s.lane m :=
  modLane_lane_ne _ _ other.symm

theorem Lane.modLines_lines_eq (f : List Line → List Line) (x : Lane) (none : f [] = []) : (x.modLines f).lines = f x.lines := by
  cases order : x.order <;> simp [Lane.lines, Lane.modLines, order, none]

theorem line?_modLine (f : Line → Line) : (s.modLine l i f).line? l i = (s.line? l i).map f := by
  rw [State.line?, modLine_lane_self, Lane.modLines_lines_eq _ _ (by simp), List.getElem?_modify_eq]; rfl

theorem sets_modTyres (f : Counters → Counters) (j : Nat) (x : Line) :
    (x.modTyres (some j) f).sets[j]? = x.sets[j]?.map fun y => { y with tyres := f y.tyres } := by
  obtain ⟨_, _, _, _, _, body⟩ := x
  cases body with
  | unmatched t => rfl
  | matched sets => exact List.getElem?_modify_eq ..

/-! ## An allocation (R65, R67, R68) -/

/-- A bay's reserved rises (R65). -/
def reserving (a : Nat) (b : Bay) : Bay := { b with reserved := b.reserved + a }

theorem weightless_reserving : Weightless (reserving a) := fun _ => rfl

theorem reserving_bay (some : 1 ≤ a) (q : BayRef) :
    (s.changeBay r (reserving a)).bay q = if q = r then { s.bay r with reserved := (s.bay r).reserved + a } else s.bay q := by
  rw [changeBay_bay]
  refine if_congr Iff.rfl (if_neg fun ⟨_, reserved, _⟩ => ?_) rfl
  simp only [reserving] at reserved
  omega

/-- The state in which the QUEUED task grows: it joins the planner next. -/
def State.grown (s : State) (r : BayRef) (a : Nat) (w : PickWork) (t : Ticket) (x : Task) : State :=
  ((s.changeBay r (reserving a)).setTask t (some { x with count := x.count + a })).modWork w (Counters.allocate a)

/-- The state in which the new task joins the planner. -/
def State.created (s : State) (r : BayRef) (a : Nat) (w : PickWork) (t : Ticket) : State :=
  (((s.changeBay r (reserving a)).storeTask t ⟨.pick, r, a, some w, s.stamp, .queued⟩).bumpStamp).modWork w (Counters.allocate a)

theorem allocateTo_grows {t : Ticket} {x : Task} (oldest : oldestTask? (s.growable r l line set) = some (t, x)) :
    s.allocateTo r a l line set urgent = some (((s.grown r a ⟨l, line, set, urgent⟩ t x).joinPlanner t).dueSelect) := by
  simp only [State.allocateTo, oldest]; rfl

theorem allocateTo_creates {t : Ticket} (none : oldestTask? (s.growable r l line set) = none) (free : s.freeTicket? = some t) :
    s.allocateTo r a l line set urgent = some (((s.created r a ⟨l, line, set, urgent⟩ t).joinPlanner t).dueSelect) := by
  simp only [State.allocateTo, none, free]
  rw [changeBay_stamp]; rfl

theorem allocateTo_starves (none : oldestTask? (s.growable r l line set) = none) (full : s.freeTicket? = Option.none) :
    s.allocateTo r a l line set urgent = Option.none := by
  simp only [State.allocateTo, none, full]

/-- What reserving tyres for a line or set writes, whatever its task. -/
structure Allocated (s : State) (r : BayRef) (a : Nat) (w : PickWork) (t : State) : Prop where
  bay : ∀ q, t.bay q = if q = r then { s.bay r with reserved := (s.bay r).reserved + a } else s.bay q
  payload : ∀ c k, (t.carrier c k).payload = (s.carrier c k).payload
  lane : t.lane w.lane = (s.modWork w (Counters.allocate a)).lane w.lane
  others : ∀ m, m ≠ w.lane → t.lane m = s.lane m

theorem allocated_of {u : State} (w : PickWork) (some : 1 ≤ a) (carousels : u.carousels = (s.changeBay r (reserving a)).carousels)
    (lanes : u.lanes = s.lanes) : Allocated s r a w (u.modWork w (Counters.allocate a)) := by
  have lane (m : LaneId) : u.lane m = s.lane m := congrArg (look · m) lanes
  have carousel (c : CarouselId) : (u.modWork w (Counters.allocate a)).carousel c = (s.changeBay r (reserving a)).carousel c :=
    congrArg (look · c) carousels
  refine ⟨fun q => ?_, fun c k => ?_, ?_, fun m other => ?_⟩
  · rw [bay_eq, carousel]; exact reserving_bay some q
  · rw [State.carrier, carousel]; exact changeBay_payload_of_weightless weightless_reserving k
  · rw [State.modWork, modLine_lane_self, lane, State.modWork, modLine_lane_self]
  · rw [State.modWork, modLine_lane_ne _ other, lane]

theorem grown_allocated (w : PickWork) (t : Ticket) (x : Task) (some : 1 ≤ a) : Allocated s r a w (s.grown r a w t x) :=
  allocated_of w some rfl (changeBay_lanes ..)

theorem created_allocated (w : PickWork) (t : Ticket) (some : 1 ≤ a) : Allocated s r a w (s.created r a w t) :=
  allocated_of w some rfl (by rw [stored_lanes, changeBay_lanes])

theorem Allocated.joins {w : PickWork} {i : Ticket} {x : Task} {u v : State} (h : Allocated s r a w u) (joins : Joins i x u v) :
    Allocated s r a w v.dueSelect :=
  ⟨fun q => (joins.bay q).trans (h.bay q), fun c k => (congrArg Carrier.payload (joins.carrier c k)).trans (h.payload c k),
    (joins.lane _).trans h.lane, fun m other => (joins.lane m).trans (h.others m other)⟩

theorem grown_task (w : PickWork) (t : Ticket) (x : Task) (u : Ticket) :
    (s.grown r a w t x).task u = if u = t then some { x with count := x.count + a } else s.task u := by
  by_cases own : u = t
  · rw [if_pos own, own]; exact setTask_task_self ..
  · rw [if_neg own]; exact (setTask_task_ne _ _ (Ne.symm own)).trans (changeBay_task ..)

theorem created_task (w : PickWork) (t u : Ticket) :
    (s.created r a w t).task u = if u = t then some ⟨.pick, r, a, some w, s.stamp, .queued⟩ else s.task u := by
  by_cases own : u = t
  · rw [if_pos own, own]; exact setTask_task_self ..
  · rw [if_neg own]; exact (setTask_task_ne _ _ (Ne.symm own)).trans (changeBay_task ..)

theorem created_nextTicket (w : PickWork) (t : Ticket) : (s.created r a w t).nextTicket = t + 1 := rfl

/-- Settles O24: a task grows or is created, and joins the planner. -/
theorem allocationReservesTyres : Obligations.AllocationReservesTyres := by
  intro r a l line set urgent s some_
  cases oldest : oldestTask? (s.growable r l line set) with
  | some p =>
    obtain ⟨t, x⟩ := p
    rw [allocateTo_grows oldest]
    refine ⟨fun e => (Option.some_ne_none _ e).elim, fun y e => ?_⟩
    obtain rfl := Option.some.inj e
    have joins := joins_joinPlanner (i := t) (grown_task (s := s) (r := r) (a := a) ⟨l, line, set, urgent⟩ t x t |>.trans (if_pos rfl))
    have done := (grown_allocated (s := s) (r := r) ⟨l, line, set, urgent⟩ t x some_).joins joins
    refine ⟨done.bay, done.payload, done.lane, done.others, .inl ⟨t, x, rfl, ?_, fun u other => ?_⟩⟩
    · obtain ⟨now, task, _⟩ := joins.own
      exact ⟨now, task⟩
    · exact (joins.others u other).trans ((grown_task ..).trans (if_neg other))
  | none =>
    have none : s.growable r l line set = [] := best?_eq_none.mp oldest
    cases free : s.freeTicket? with
    | none => rw [allocateTo_starves oldest free]; exact ⟨fun _ => ⟨rfl, none⟩, fun _ e => (Option.some_ne_none _ e.symm).elim⟩
    | some t =>
      rw [allocateTo_creates oldest free]
      refine ⟨fun e => (Option.some_ne_none _ e).elim, fun y e => ?_⟩
      obtain rfl := Option.some.inj e
      have tasks := created_task (s := s) (r := r) (a := a) ⟨l, line, set, urgent⟩ t
      have writes := created_allocated (s := s) (r := r) ⟨l, line, set, urgent⟩ t some_
      have next := created_nextTicket (s := s) (r := r) (a := a) ⟨l, line, set, urgent⟩ t
      generalize s.created r a ⟨l, line, set, urgent⟩ t = v at *
      have joins := joins_joinPlanner ((tasks t).trans (if_pos rfl))
      generalize v.joinPlanner t = z at *
      have done := writes.joins joins
      obtain ⟨now, task, _⟩ := joins.own
      exact ⟨done.bay, done.payload, done.lane, done.others, .inr ⟨none, t, now, rfl, task,
        fun u other => (joins.others u other).trans ((tasks u).trans (if_neg other)), joins.nextTicket.trans next⟩⟩

end Allocation

end Sys2Proof.Machine

/-! A pending audit is handed over and its phase begins (R137). -/

namespace Sys2Proof.Machine

section Handover

variable {s : State} {c d : CarouselId} {k : CarrierId} {scope : Scope} {bays : List BayId}
  {given : List (BayId × EntryId)} {b : BayId} {e : EntryId}

theorem mem_bayList : b ∈ scope.bayList ↔ ∃ o, look scope.bays b = some o := by
  simp [Scope.bayList, List.mem_filter, Option.isSome_iff_exists]

theorem bayList_nodup (scope : Scope) : scope.bayList.Nodup := (List.nodup_finRange 4).filter _

theorem mem_freeEntries : e ∈ s.freeEntries ↔ s.disc e = .free := by simp [State.freeEntries]

/-! ## The table of a phase -/

/-- What the table of a phase holds: each bay given, with its entry. -/
theorem look_phaseTable_foldl (start : BayId × EntryId → PhaseBay) (v : Vector (Option PhaseBay) 4)
    (nodup : (given.map Prod.fst).Nodup) (b : BayId) :
    (b ∉ given.map Prod.fst → look (given.foldl (fun v p => put v p.1 (some (start p))) v) b = look v b)
      ∧ ∀ p ∈ given, p.1 = b → look (given.foldl (fun v p => put v p.1 (some (start p))) v) b = some (start p) := by
  induction given generalizing v with
  | nil => exact ⟨fun _ => rfl, nofun⟩
  | cons a rest ih =>
    rw [List.map_cons, List.nodup_cons] at nodup
    obtain ⟨kept, given⟩ := ih (put v a.1 (some (start a))) nodup.2
    refine ⟨fun out => ?_, fun p mem same => ?_⟩
    · rw [List.map_cons, List.mem_cons, not_or] at out
      rw [List.foldl_cons, kept out.2, look_put_ne _ _ (Ne.symm out.1)]
    · rcases List.mem_cons.mp mem with rfl | mem
      · rw [List.foldl_cons, kept (same ▸ nodup.1), same, look_put_self]
      · exact given p mem same

theorem look_phaseTable (nodup : (given.map Prod.fst).Nodup) (b : BayId) :
    (b ∉ given.map Prod.fst → look (phaseTable s c k scope given) b = none)
      ∧ ∀ e, (b, e) ∈ given → look (phaseTable s c k scope given) b
          = some (PhaseBay.start ((look scope.bays b).getD .carrier) (s.bay ⟨c, k, b⟩).count e) := by
  obtain ⟨out, mem⟩ := look_phaseTable_foldl (fun p => PhaseBay.start ((look scope.bays p.1).getD .carrier)
    (s.bay ⟨c, k, p.1⟩).count p.2) (Vector.replicate 4 none) nodup b
  exact ⟨fun h => (out h).trans (look_replicate ..), fun e h => mem _ h rfl⟩

/-! ## The bays and entries of a phase -/

/-- The bays of a phase that begins take AUDIT_HOLD, and their entries are reserved (R137). -/
def State.heldFor (s : State) (c : CarouselId) (k : CarrierId) (given : List (BayId × EntryId)) : State :=
  given.foldl (fun acc p => (acc.setDisc p.2 .reserved).modBay ⟨c, k, p.1⟩ fun b => { b with auditHold := true }) s

theorem heldFor_cons (p : BayId × EntryId) (rest : List (BayId × EntryId)) :
    s.heldFor c k (p :: rest)
      = ((s.setDisc p.2 .reserved).modBay ⟨c, k, p.1⟩ fun b => { b with auditHold := true }).heldFor c k rest := rfl

theorem heldFor_bay (q : BayRef) :
    (s.heldFor c k given).bay q
      = if q.carousel = c ∧ q.carrier = k ∧ q.bay ∈ given.map Prod.fst then { s.bay q with auditHold := true }
        else s.bay q := by
  induction given generalizing s with
  | nil => simp [State.heldFor]
  | cons p rest ih =>
    rw [heldFor_cons, ih, modBay_bay]
    have kept : (s.setDisc p.2 .reserved).bay q = s.bay q := rfl
    rw [kept]
    obtain ⟨qc, qk, qb⟩ := q
    by_cases here : qc = c ∧ qk = k
    · obtain ⟨rfl, rfl⟩ := here
      by_cases own : qb = p.1 <;> by_cases later : qb ∈ rest.map Prod.fst <;> simp_all
    · have off : ¬ ((⟨qc, qk, qb⟩ : BayRef) = ⟨c, k, p.1⟩) := fun e => here (by simp_all)
      rw [if_neg off, if_neg fun h => here ⟨h.1, h.2.1⟩, if_neg fun h => here ⟨h.1, h.2.1⟩]

theorem heldFor_disc (e : EntryId) :
    (s.heldFor c k given).disc e = if e ∈ given.map Prod.snd then .reserved else s.disc e := by
  induction given generalizing s with
  | nil => rfl
  | cons p rest ih =>
    rw [heldFor_cons, ih, modBay_disc, List.map_cons]
    by_cases later : e ∈ rest.map Prod.snd
    · rw [if_pos later, if_pos (List.mem_cons_of_mem _ later)]
    · rw [if_neg later]
      by_cases own : e = p.2
      · rw [own, setDisc_disc_self, if_pos (List.mem_cons_self ..)]
      · rw [setDisc_disc_ne _ _ (Ne.symm own), if_neg fun h => (List.mem_cons.mp h).elim own later]

theorem heldFor_port (q : PortId) : (s.heldFor c k given).port q = s.port q := by
  induction given generalizing s with
  | nil => rfl
  | cons p rest ih => rw [heldFor_cons, ih]; rfl

theorem heldFor_carousel (d : CarouselId) :
    ∃ new, (s.heldFor c k given).carousel d = { s.carousel d with carriers := new } :=
  foldl_hold_rest s c d k given

/-! ## The phase begins -/

/-- The phase that begins over some bays. -/
def State.phaseOf (s : State) (c : CarouselId) (k : CarrierId) (scope : Scope) (bays : List BayId) : Phase :=
  { mode := scope.mode, sweep := scope.sweep, bays := phaseTable s c k scope (bays.zip s.freeEntries) }

theorem beginPhase_eq : s.beginPhase c k scope bays
    = (((s.heldFor c k (bays.zip s.freeEntries)).setPhase c (some (s.phaseOf c k scope bays))).postStation c
        (.audit c k (phaseBays (some (s.phaseOf c k scope bays))))).dueSelect := rfl

section Given

variable (enough : bays.length ≤ s.freeEntries.length)
include enough

theorem given_bays : (bays.zip s.freeEntries).map Prod.fst = bays := List.map_fst_zip enough

theorem beginPhase_bay (q : BayRef) :
    (s.beginPhase c k scope bays).bay q
      = if q.carousel = c ∧ q.carrier = k ∧ q.bay ∈ bays then { s.bay q with auditHold := true } else s.bay q := by
  have held := heldFor_bay (s := s) (c := c) (k := k) (given := bays.zip s.freeEntries) q
  rw [given_bays enough] at held
  rw [← held, beginPhase_eq]
  generalize s.heldFor c k (bays.zip s.freeEntries) = v
  have phased : (v.setPhase c (some (s.phaseOf c k scope bays))).bay q = v.bay q := by
    rw [bay_eq, State.setPhase, modCarousel_carousel]
    split
    · next e => rw [bay_eq, e]
    · rfl
  rw [← phased, bay_eq, bay_eq]
  exact congrArg (fun x : Carousel => look (look x.carriers q.carrier).bays q.bay) (postStation_carousel ..)

theorem phaseOf_bays (nodup : bays.Nodup) (from_ : ∀ b ∈ bays, ∃ o, look scope.bays b = some o) (b : BayId) :
    (b ∉ bays → look (s.phaseOf c k scope bays).bays b = none)
      ∧ (b ∈ bays → ∃ o e, look scope.bays b = some o ∧ s.disc e = .free
          ∧ (s.beginPhase c k scope bays).disc e = .reserved
          ∧ look (s.phaseOf c k scope bays).bays b = some ⟨o, (s.bay ⟨c, k, b⟩).count, 0, none, none, e, none⟩) := by
  have keys := given_bays enough
  obtain ⟨out, mem⟩ := look_phaseTable (s := s) (c := c) (k := k) (scope := scope) (given := bays.zip s.freeEntries)
    (keys.symm ▸ nodup) b
  rw [keys] at out
  refine ⟨out, fun inside => ?_⟩
  obtain ⟨o, origin⟩ := from_ b inside
  rw [← keys, List.mem_map] at inside
  obtain ⟨⟨b', e⟩, given, rfl⟩ := inside
  refine ⟨o, e, origin, mem_freeEntries.mp (List.of_mem_zip given).2, ?_, ?_⟩
  · have reserved := heldFor_disc (s := s) (c := c) (k := k) (given := bays.zip s.freeEntries) e
    rw [if_pos (List.mem_map.mpr ⟨_, given, rfl⟩)] at reserved
    rw [← reserved, beginPhase_eq]
    exact congrArg (look · e) (postStation_discs ..)
  · rw [State.phaseOf, mem e given, origin]; rfl

theorem phaseBays_phaseOf (nodup : bays.Nodup) (from_ : ∀ b ∈ bays, ∃ o, look scope.bays b = some o) :
    phaseBays (some (s.phaseOf c k scope bays)) = Vector.ofFn fun b => decide (b ∈ bays) := by
  refine look_ext fun b => ?_
  obtain ⟨out, inside⟩ := phaseOf_bays (c := c) (k := k) enough nodup from_ b
  rw [look_ofFn]
  by_cases mem : b ∈ bays
  · obtain ⟨_, _, _, _, _, here⟩ := inside mem
    simp [phaseBays, here, mem]
  · simp [phaseBays, out mem, mem]

theorem beginPhase_port (nodup : bays.Nodup) (from_ : ∀ b ∈ bays, ∃ o, look scope.bays b = some o) {st : StationId}
    (station : (s.carousel c).cfg.station = some st) (q : PortId) :
    (s.beginPhase c k scope bays).port q
      = postsTo [(stationPort st, .audit c k (Vector.ofFn fun b => decide (b ∈ bays)))] q (s.port q) := by
  rw [beginPhase_eq, phaseBays_phaseOf enough nodup from_]
  obtain ⟨new, rest⟩ := heldFor_carousel (s := s) (c := c) (k := k) (given := bays.zip s.freeEntries) c
  have port := heldFor_port (s := s) (c := c) (k := k) (given := bays.zip s.freeEntries) q
  generalize s.heldFor c k (bays.zip s.freeEntries) = v at *
  rw [← port]
  refine (postStation_postsTo _ q).trans ?_
  rw [State.setPhase, modCarousel_carousel, if_pos rfl, rest]
  simp only [station]
  rfl

end Given

/-- What a phase that begins leaves of its carousel. -/
theorem beginPhase_carousel :
    ∃ new, (s.beginPhase c k scope bays).carousel c
      = { s.carousel c with carriers := new, phase := some (s.phaseOf c k scope bays) } := by
  obtain ⟨new, rest⟩ := heldFor_carousel (s := s) (c := c) (k := k) (given := bays.zip s.freeEntries) c
  refine ⟨new, ?_⟩
  rw [beginPhase_eq]
  refine (postStation_carousel ..).trans ?_
  rw [State.setPhase, modCarousel_carousel, if_pos rfl, rest]

/-! ## A pending audit is handed over -/

/-- The bays of a scope that are not in dispute (R137). -/
def State.undisputed (s : State) (c : CarouselId) (k : CarrierId) (scope : Scope) : List BayId :=
  scope.bayList.filter fun b => !(s.bay ⟨c, k, b⟩).disputed

theorem undisputed_nodup : (s.undisputed c k scope).Nodup := (bayList_nodup scope).filter _

theorem undisputed_from (mem : b ∈ s.undisputed c k scope) : ∃ o, look scope.bays b = some o :=
  mem_bayList.mp (List.mem_of_mem_filter mem)

/-- The presentation without its pending audit. -/
def State.taken (s : State) (c : CarouselId) : State := s.modFace c fun p => { p with pendingAudit := none }

theorem taken_carousel_self : (s.taken c).carousel c
    = { s.carousel c with face := (s.carousel c).face.map fun p => { p with pendingAudit := none } } :=
  modCarousel_carousel_self ..

theorem taken_bay (q : BayRef) : (s.taken c).bay q = s.bay q := by
  rw [bay_eq, State.taken, State.modFace, modCarousel_carousel]
  split
  · next e => rw [bay_eq, e]
  · rfl

theorem handOver_begins (some_ : s.undisputed c k scope ≠ []) (enough : (s.undisputed c k scope).length ≤ s.freeEntries.length) :
    s.handOver c k scope = (s.taken c).beginPhase c k scope (s.undisputed c k scope) := by
  simp only [State.handOver]
  rw [if_neg, if_neg (by simpa [State.undisputed] using enough)]
  · rfl
  · simpa [State.undisputed] using some_

/-- Settles O36: the pending audit goes and a phase begins. -/
theorem aHandedOverAuditBeginsAPhase : Obligations.AHandedOverAuditBeginsAPhase := by
  intro c p scope st s station face k bays some_ enough t
  have begins : t = (s.taken c).beginPhase c k scope bays := handOver_begins some_ enough
  have nodup : bays.Nodup := undisputed_nodup
  have from_ : ∀ b ∈ bays, ∃ o, look scope.bays b = some o := fun b => undisputed_from
  obtain ⟨new, rest⟩ := beginPhase_carousel (s := s.taken c) (c := c) (k := k) (scope := scope) (bays := bays)
  rw [taken_carousel_self, face] at rest
  rw [begins]
  refine ⟨by rw [rest]; rfl, ⟨_, by rw [rest], rfl, rfl, fun b => ?_⟩, fun q => ?_, fun q => ?_⟩
  · have table := phaseOf_bays (s := s.taken c) (c := c) (k := k) enough nodup from_ b
    simp only [taken_bay] at table
    exact table
  · have held := beginPhase_bay (s := s.taken c) (c := c) (k := k) (scope := scope) enough q
    simp only [taken_bay] at held
    exact held
  · exact beginPhase_port (s := s.taken c) enough nodup from_ (by rw [taken_carousel_self]; exact station) q

end Handover

end Sys2Proof.Machine

/-! How a presentation starts and ends (5.4). -/

namespace Sys2Proof.Machine

section Presentations

variable {s : State} {c d : CarouselId} {k : CarrierId} {scope : Option Scope} {aside fault : Bool} {p : Presentation}
  {st : StationId} {q : PortId}

/-! ## What is left to do waits in a call (R89, R93) -/

/-- A new call for what is left of a carrier, where anything is. -/
def State.callLeft (s : State) (c : CarouselId) (k : CarrierId) (scope : Option Scope) (aside : Bool) : State :=
  if scope.isSome || !(s.queuedOn c k).isEmpty then s.raiseCall c k scope aside else s

def State.leftCalls (s : State) (c : CarouselId) (k : CarrierId) (scope : Option Scope) (aside : Bool) : List Call :=
  if scope.isSome ∨ s.queuedOn c k ≠ [] then [⟨k, s.stamp, 0, scope, aside⟩] else []

theorem callLeft_of (left : scope.isSome ∨ s.queuedOn c k ≠ []) : s.callLeft c k scope aside = s.raiseCall c k scope aside :=
  if_pos (by simpa using left)

theorem callLeft_of_not (none : ¬ (scope.isSome ∨ s.queuedOn c k ≠ [])) : s.callLeft c k scope aside = s :=
  if_neg (by simpa using none)

theorem callLeft_carousel_self :
    (s.callLeft c k scope aside).carousel c
      = { s.carousel c with calls := (s.carousel c).calls ++ s.leftCalls c k scope aside } := by
  by_cases left : scope.isSome ∨ s.queuedOn c k ≠ []
  · rw [callLeft_of left, raiseCall_carousel, if_pos rfl, State.leftCalls, if_pos left]
  · rw [callLeft_of_not left, State.leftCalls, if_neg left, List.append_nil]

theorem callLeft_carousel_ne (other : d ≠ c) : (s.callLeft c k scope aside).carousel d = s.carousel d := by
  rw [State.callLeft]
  split
  · rw [raiseCall_carousel, if_neg (Ne.symm other)]
  · rfl

theorem callLeft_ports : (s.callLeft c k scope aside).ports = s.ports := by rw [State.callLeft]; split <;> rfl
theorem callLeft_tasks : (s.callLeft c k scope aside).tasks = s.tasks := by rw [State.callLeft]; split <;> rfl
theorem callLeft_lanes : (s.callLeft c k scope aside).lanes = s.lanes := by rw [State.callLeft]; split <;> rfl
theorem callLeft_discs : (s.callLeft c k scope aside).discs = s.discs := by rw [State.callLeft]; split <;> rfl

/-! ## A carousel leaves PRESENTING -/

/-- A carousel whose presentation ended is FAULTED with the fault flag, else IDLE (R89, R93). -/
def State.leaveFace (s : State) (c : CarouselId) (fault : Bool) : State := if fault then s.goFaulted c else s.enterIdle c

theorem leaveFace_inner :
    (s.leaveFace c fault).inner = s.inner.modMotion c fun m => m.rest (if fault then .faulted else .idle) := by
  cases fault
  · exact enterIdle_inner ..
  · exact goFaulted_inner ..

theorem leaveFace_carousel :
    (s.leaveFace c fault).carousel d
      = if c = d then { s.carousel d with motion := (s.motion d).rest (if fault then .faulted else .idle) }
        else s.carousel d := by
  have inner := congrArg (fun u : State => u.carousel d) (leaveFace_inner (s := s) (c := c) (fault := fault))
  refine inner.trans ((modCarousel_carousel ..).trans ?_)
  split
  · next own => subst own; rfl
  · rfl

theorem leaveFace_tasks : (s.leaveFace c fault).tasks = s.tasks := (congrArg State.tasks (leaveFace_inner (s := s) (c := c) (fault := fault)) :)
theorem leaveFace_lanes : (s.leaveFace c fault).lanes = s.lanes := (congrArg State.lanes (leaveFace_inner (s := s) (c := c) (fault := fault)) :)
theorem leaveFace_discs : (s.leaveFace c fault).discs = s.discs := (congrArg State.discs (leaveFace_inner (s := s) (c := c) (fault := fault)) :)

/-- The CAROUSEL notice of a carousel that goes to FAULTED with the cause it holds (R109). -/
def State.faultPosts (s : State) (c : CarouselId) (fault : Bool) : List (PortId × Notice) :=
  if fault then
    [(stockPort, .carousel c .faulted (s.motion c).fault (s.motion c).hold (s.carousel c).balance.overweight
      (s.carousel c).balance.peak)]
  else []

theorem leaveFace_port (q : PortId) : (s.leaveFace c fault).port q = postsTo (s.faultPosts c fault) q (s.port q) := by
  cases fault
  · exact enterIdle_port ..
  · exact (goFaulted_port ..).trans (by rw [State.faultPosts, if_pos rfl, postsTo_cons, postsTo_nil])

theorem leaveFace_selects (idle : fault = false) : (s.leaveFace c fault).due.select = true := by
  subst idle
  exact congrArg Due.select (enterIdle_due ..)

/-! ## Tombstones at a face -/

/-- Tasks of carriers without a call are freed, and no call goes. -/
theorem foldl_freeTask_uncalled (l : List (Ticket × Task))
    (uncalled : ∀ a ∈ l, ∀ x, s.task a.1 = some x → (s.carousel x.bay.carousel).callFor x.bay.carrier = none) :
    ∃ tasks freed, l.foldl (fun acc a => acc.freeTask a.1) s
      = { s with tasks := tasks, due := { s.due with freed := freed } } := by
  induction l generalizing s with
  | nil => exact ⟨_, _, rfl⟩
  | cons a rest ih =>
    rw [List.foldl_cons]
    have first : ∃ tasks freed, s.freeTask a.1 = { s with tasks := tasks, due := { s.due with freed := freed } } := by
      cases stands : s.task a.1 with
      | none => exact ⟨_, _, by rw [State.freeTask, stands]⟩
      | some x => exact ⟨_, _, freeTask_presented _ _ _ stands (uncalled a (List.mem_cons_self ..) x stands)⟩
    obtain ⟨tasks, freed, e⟩ := first
    obtain ⟨tasks', freed', e'⟩ := ih (s := s.freeTask a.1) fun b mem x stands => by
      rw [freeTask_task] at stands
      rw [e]
      refine uncalled b (List.mem_cons_of_mem _ mem) x ?_
      split at stands
      · cases stands
      · exact stands
    exact ⟨tasks', freed', by rw [e', e]⟩

/-- The tombstones of a presentation go, and nothing else of the carousels. -/
theorem freeTombstones_at_face (one : (s.carousel c).callFor k = none)
    (there : ∀ t x, s.task t = some x → x.bay.carousel = c → x.state = .cancelled → x.bay.carrier = k) :
    ∃ tasks freed, s.freeTombstones c = { s with tasks := tasks, due := { s.due with freed := freed } } := by
  refine foldl_freeTask_uncalled _ fun a mem x stands => ?_
  obtain ⟨own, cancelled, on⟩ := mem_tombstonesOn.mp mem
  obtain rfl := Option.some.inj (own.symm.trans stands)
  rw [on, there a.1 _ own on cancelled, one]

/-! ## A presentation ends (R89) -/

/-- The state in which what is left is looked for: the tombstones gone, FACE_END posted, no presentation. -/
def State.faceEnded (s : State) (c : CarouselId) (k : CarrierId) : State :=
  ((s.freeTombstones c).postStation c (.faceEnd c k)).modCarousel c fun x => { x with face := none }

theorem endPresentation_eq :
    s.endPresentation c p = ((s.faceEnded c p.carrier).callLeft c p.carrier p.deferred false).leaveFace c p.faultFlag := rfl

theorem queuedOn_freeTombstones : (s.freeTombstones c).queuedOn d k = s.queuedOn d k := by
  simp only [State.queuedOn, State.allTasks, List.filter_filterMap]
  refine List.filterMap_congr fun t _ => ?_
  rw [freeTombstones_task]
  cases s.task t with
  | none => rfl
  | some x =>
    rw [Option.filter_some]
    cases tomb : x.tombOn c with
    | false => rfl
    | true =>
      simp only [Task.tombOn, Bool.and_eq_true, decide_eq_true_eq] at tomb
      simp [Option.filter_some, tomb.1]

theorem queuedOn_faceEnded : (s.faceEnded c k).queuedOn d k = s.queuedOn d k :=
  (queuedOn_of_tasks (postStation_tasks ..)).trans queuedOn_freeTombstones

section Ends

variable (one : (s.carousel c).callFor p.carrier = none)
  (there : ∀ t x, s.task t = some x → x.bay.carousel = c → x.state = .cancelled → x.bay.carrier = p.carrier)
include one there

theorem faceEnded_carousel :
    (s.faceEnded c p.carrier).carousel d = if c = d then { s.carousel d with face := none } else s.carousel d := by
  obtain ⟨_, _, e⟩ := freeTombstones_at_face one there
  rw [State.faceEnded, modCarousel_carousel, postStation_carousel, postStation_carousel, e]
  split
  · next own => subst own; rfl
  · rfl

theorem faceEnded_stamp : (s.faceEnded c p.carrier).stamp = s.stamp := by
  obtain ⟨_, _, e⟩ := freeTombstones_at_face one there
  exact (postStation_stamp ..).trans (by rw [e])

theorem faceEnded_lanes : (s.faceEnded c p.carrier).lanes = s.lanes := by
  obtain ⟨_, _, e⟩ := freeTombstones_at_face one there
  exact (postStation_lanes ..).trans (by rw [e])

theorem faceEnded_discs : (s.faceEnded c p.carrier).discs = s.discs := by
  obtain ⟨_, _, e⟩ := freeTombstones_at_face one there
  exact (postStation_discs ..).trans (by rw [e])

theorem endPresentation_carousel :
    (s.endPresentation c p).carousel d = if c = d then
        { s.carousel d with
          motion := (s.motion d).rest (if p.faultFlag then .faulted else .idle), face := none,
          calls := (s.carousel d).calls ++ s.leftCalls c p.carrier p.deferred false }
      else s.carousel d := by
  have ended (d : CarouselId) := faceEnded_carousel (d := d) one there
  have calls : (s.faceEnded c p.carrier).leftCalls c p.carrier p.deferred false = s.leftCalls c p.carrier p.deferred false := by
    rw [State.leftCalls, queuedOn_faceEnded, faceEnded_stamp one there, State.leftCalls]
  rw [endPresentation_eq, leaveFace_carousel]
  by_cases own : c = d
  · subst own
    rw [if_pos rfl, if_pos rfl, State.motion, callLeft_carousel_self, ended, if_pos rfl, calls]; rfl
  · rw [if_neg own, if_neg own, callLeft_carousel_ne (Ne.symm own), ended, if_neg own]

theorem endPresentation_lanes : (s.endPresentation c p).lanes = s.lanes := by
  rw [endPresentation_eq, leaveFace_lanes, callLeft_lanes, faceEnded_lanes one there]

theorem endPresentation_discs : (s.endPresentation c p).discs = s.discs := by
  rw [endPresentation_eq, leaveFace_discs, callLeft_discs, faceEnded_discs one there]

theorem endPresentation_port (q : PortId) :
    (s.endPresentation c p).port q
      = postsTo ((s.carousel c).cfg.station.toList.map (fun st => (stationPort st, Notice.faceEnd c p.carrier))
          ++ s.faultPosts c p.faultFlag) q (s.port q) := by
  have ended := faceEnded_carousel (d := c) one there
  have posts : ((s.faceEnded c p.carrier).callLeft c p.carrier p.deferred false).faultPosts c p.faultFlag
      = s.faultPosts c p.faultFlag := by
    rw [State.faultPosts, State.motion, callLeft_carousel_self, ended, if_pos rfl]; rfl
  have port : ((s.faceEnded c p.carrier).callLeft c p.carrier p.deferred false).port q
      = postsTo ((s.carousel c).cfg.station.toList.map fun st => (stationPort st, Notice.faceEnd c p.carrier)) q
          (s.port q) := by
    rw [State.port, callLeft_ports]
    refine (postStation_postsTo _ q).trans ?_
    obtain ⟨_, _, e⟩ := freeTombstones_at_face one there
    rw [e]; rfl
  rw [endPresentation_eq, leaveFace_port, posts, port, ← postsTo_append]

end Ends

theorem endPresentation_task (t : Ticket) :
    (s.endPresentation c p).task t = (s.task t).filter fun x => !x.tombOn c := by
  rw [State.task, endPresentation_eq, leaveFace_tasks, callLeft_tasks]
  exact (congrArg (look · t) (postStation_tasks ..)).trans (freeTombstones_task ..)

/-! ## The test of a face (R87, R89) -/

theorem faceTest_of_away (away : (s.carousel c).face = none) : s.faceTest c = s := by rw [State.faceTest, away]

theorem faceTest_of_busy (busy : (s.carousel c).phase ≠ none ∨ s.presentedOn c ≠ []) : s.faceTest c = s := by
  rw [State.faceTest]
  split
  · rfl
  · exact if_pos (by simpa [Option.isSome_iff_ne_none] using busy)

theorem faceTest_of_idle (face : (s.carousel c).face = some p) (phase : (s.carousel c).phase = none)
    (none_ : s.presentedOn c = []) (audit : p.pendingAudit = none) : s.faceTest c = s.endPresentation c p := by
  simp [State.faceTest, face, phase, none_, audit]

/-- A pending audit is handed over: with a phase the presentation goes on. -/
theorem faceTest_of_phase {x : Scope} (face : (s.carousel c).face = some p) (phase : (s.carousel c).phase = none)
    (none_ : s.presentedOn c = []) (audit : p.pendingAudit = some x)
    (runs : ((s.handOver c p.carrier x).carousel c).phase ≠ none) : s.faceTest c = s.handOver c p.carrier x := by
  obtain ⟨f, runs⟩ := Option.ne_none_iff_exists'.mp runs
  simp only [State.faceTest, face, phase, none_, audit, runs]
  cases ((s.handOver c p.carrier x).carousel c).face <;> rfl

/-- A pending audit is handed over: without a phase the presentation ends. -/
theorem faceTest_of_no_phase {x : Scope} {r : Presentation} (face : (s.carousel c).face = some p)
    (phase : (s.carousel c).phase = none) (none_ : s.presentedOn c = []) (audit : p.pendingAudit = some x)
    (stays : ((s.handOver c p.carrier x).carousel c).face = some r)
    (ended : ((s.handOver c p.carrier x).carousel c).phase = none) :
    s.faceTest c = (s.handOver c p.carrier x).endPresentation c r := by
  simp [State.faceTest, face, phase, none_, audit, ended, stays]

end Presentations

end Sys2Proof.Machine

/-! A presentation starts (R84 to R87). -/

namespace Sys2Proof.Machine

section Starts

variable {s : State} {c d : CarouselId} {k : CarrierId} {scope : Option Scope} {st : StationId} {q : PortId}

/-! ## What a presentation shows (R84, R85) -/

/-- The tasks a presentation shows: the unheld QUEUED tasks of the carrier, in FACE order. -/
def State.shownOn (s : State) (c : CarouselId) (k : CarrierId) : List (Ticket × Task) :=
  sortBy faceBefore ((s.queuedOn c k).filter fun q => !s.isHeld q.2)

/-- The scope of the carrier's call. -/
def State.scopeOn (s : State) (c : CarouselId) (k : CarrierId) : Option Scope := ((s.carousel c).callFor k).bind Call.scope

theorem mem_shownOn {a : Ticket × Task} :
    a ∈ s.shownOn c k
      ↔ s.task a.1 = some a.2 ∧ a.2.state = .queued ∧ a.2.bay.carousel = c ∧ a.2.bay.carrier = k ∧ s.isHeld a.2 = false := by
  simp [State.shownOn, mem_sortBy, mem_queuedOn, and_assoc]

theorem shownOn_eq_nil (held : ∀ q ∈ s.queuedOn c k, s.isHeld q.2 = true) : s.shownOn c k = [] := by
  rw [State.shownOn, List.filter_eq_nil_iff.mpr fun q mem => by simp [held q mem]]; rfl

/-- A carousel as the presentation of a carrier begins on it. -/
def Carousel.presenting (x : Carousel) (k : CarrierId) (scope : Option Scope) : Carousel :=
  { x with
    motion := x.motion.rest .presenting, face := some ⟨k, scope, none, false⟩,
    calls := (x.calls.filter fun q => q.carrier ≠ k).map fun q => { q with setAside := false } }

/-- The state in which the presentation begins: the carousel is PRESENTING, and a permit it held is returned. -/
def State.presentingOf (s : State) (c : CarouselId) (k : CarrierId) : State :=
  (s.modCarousel c fun x => x.presenting k (s.scopeOn c k)).returnPermit (s.motion c).state

/-- Tasks become PRESENTED (R85). -/
def State.showAll (s : State) (l : List (Ticket × Task)) : State :=
  l.foldl (fun acc q => acc.setTask q.1 (some { q.2 with state := .presented })) s

theorem startPresentation_of_nothing (none_ : s.shownOn c k = []) (scope : s.scopeOn c k = none) :
    s.startPresentation c k = s.enterIdle c := by
  simp only [State.startPresentation]
  exact if_pos (by simpa [State.shownOn, State.scopeOn] using And.intro none_ scope)

theorem startPresentation_of_tasks (some_ : s.shownOn c k ≠ []) :
    s.startPresentation c k
      = (((s.presentingOf c k).showAll (s.shownOn c k)).postFace c k (s.shownOn c k) (s.scopeOn c k)) := by
  simp only [State.startPresentation]
  rw [if_neg, if_neg]
  · rfl
  · simpa [State.shownOn] using some_
  · simpa [State.shownOn] using fun e => absurd e some_

theorem startPresentation_of_scope (none_ : s.shownOn c k = []) (scope : s.scopeOn c k ≠ none) :
    s.startPresentation c k
      = (((s.presentingOf c k).postStation c (.face c k 0 [] (scopeBays (s.scopeOn c k)))).faceTest c) := by
  have none' : sortBy faceBefore ((s.queuedOn c k).filter fun q => !s.isHeld q.2) = [] := none_
  simp only [State.startPresentation, none']
  rw [if_neg]
  · rfl
  · simpa [State.scopeOn] using scope

theorem presentingOf_carousel_self : (s.presentingOf c k).carousel c = (s.carousel c).presenting k (s.scopeOn c k) := by
  rw [State.presentingOf, returnPermit_carousel, modCarousel_carousel_self]

theorem presentingOf_port (q : PortId) : (s.presentingOf c k).port q = s.port q := returnPermit_port ..

theorem presentingOf_tasks : (s.presentingOf c k).tasks = s.tasks := returnPermit_tasks ..

/-! ## Tasks shown -/

theorem showAll_carousel (l : List (Ticket × Task)) (d : CarouselId) : (s.showAll l).carousel d = s.carousel d :=
  congrArg (look · d) (foldl_setTask_carousels s (fun x => { x with state := .presented }) l)

theorem showAll_port (l : List (Ticket × Task)) (q : PortId) : (s.showAll l).port q = s.port q := by
  induction l generalizing s with
  | nil => rfl
  | cons a rest ih => exact ih

/-- The tasks shown are PRESENTED, and the others stay. -/
theorem showAll_task {l : List (Ticket × Task)} (standing : ∀ a ∈ l, s.task a.1 = some a.2) (u : Ticket) :
    (∀ x, (u, x) ∈ l → (s.showAll l).task u = some { x with state := .presented })
      ∧ ((∀ x, (u, x) ∉ l) → (s.showAll l).task u = s.task u) := by
  obtain ⟨written, kept⟩ := foldl_setTask_task s u (fun x => { x with state := .presented }) l
  refine ⟨fun x mem => written x (fun y m => ?_) mem, fun out => kept fun mem => ?_⟩
  · exact Option.some.inj ((standing _ m).symm.trans (standing _ mem))
  · obtain ⟨a, shown, rfl⟩ := List.mem_map.mp mem
    exact out a.2 shown

/-! ## FACE and TASK_ADDED (R85) -/

theorem foldl_postStation {α : Type} (l : List α) (n : α → Notice) (station : (s.carousel c).cfg.station = some st) :
    (∀ d, (l.foldl (fun acc e => acc.postStation c (n e)) s).carousel d = s.carousel d)
      ∧ (l.foldl (fun acc e => acc.postStation c (n e)) s).tasks = s.tasks
      ∧ ∀ q, (l.foldl (fun acc e => acc.postStation c (n e)) s).port q
          = postsTo (l.map fun e => (stationPort st, n e)) q (s.port q) := by
  induction l generalizing s with
  | nil => exact ⟨fun _ => rfl, rfl, fun q => (postsTo_nil ..).symm⟩
  | cons a rest ih =>
    obtain ⟨carousel, tasks, port⟩ := ih (s := s.postStation c (n a)) ((congrArg (·.cfg.station) (postStation_carousel ..)).trans station)
    refine ⟨fun d => (carousel d).trans (postStation_carousel ..), tasks.trans (postStation_tasks ..), fun q => ?_⟩
    refine (port q).trans ?_
    rw [postStation_postsTo, station, ← postsTo_append]; rfl

/-- The entries a FACE notice may list. -/
def entriesOf (shown : List (Ticket × Task)) : List FaceEntry :=
  shown.map fun q => faceEntry q.1 { q.2 with state := .presented }

theorem postFace_writes (shown : List (Ticket × Task)) (station : (s.carousel c).cfg.station = some st) :
    (∀ d, (s.postFace c k shown scope).carousel d = s.carousel d)
      ∧ (s.postFace c k shown scope).tasks = s.tasks
      ∧ ∀ q, (s.postFace c k shown scope).port q
          = postsTo ((stationPort st, .face c k (entriesOf shown).length ((entriesOf shown).take 18) (scopeBays scope))
              :: ((entriesOf shown).drop 18).map fun e => (stationPort st, .taskAdded c k e)) q (s.port q) := by
  have kept : ((s.postStation c (.face c k (entriesOf shown).length ((entriesOf shown).take 18) (scopeBays scope))).carousel
      c).cfg.station = some st := (congrArg (·.cfg.station) (postStation_carousel ..)).trans station
  obtain ⟨carousel, tasks, port⟩ := foldl_postStation ((entriesOf shown).drop 18) (fun e => .taskAdded c k e) kept
  refine ⟨fun d => (carousel d).trans (postStation_carousel ..), tasks.trans (postStation_tasks ..), fun q => ?_⟩
  refine (port q).trans ?_
  rw [postStation_postsTo, station, ← postsTo_append]; rfl

/-! ## A scope alone (R84, R87) -/

section Scoped

variable {x : Scope} (station : (s.carousel c).cfg.station = some st) (holds : s.scopeOn c k = some x)
include station holds

/-- The state in which the scope of a presentation without tasks is handed over. -/
def State.facedOf (s : State) (c : CarouselId) (k : CarrierId) : State :=
  (s.presentingOf c k).postStation c (.face c k 0 [] (scopeBays (s.scopeOn c k)))

omit station in
theorem facedOf_carousel : (s.facedOf c k).carousel c = (s.carousel c).presenting k (some x) := by
  rw [State.facedOf, postStation_carousel, presentingOf_carousel_self, holds]

theorem facedOf_port (q : PortId) :
    (s.facedOf c k).port q = postsTo [(stationPort st, .face c k 0 [] (scopeBays (some x)))] q (s.port q) := by
  rw [State.facedOf, postStation_postsTo, presentingOf_carousel_self, presentingOf_port, holds]
  simp only [Carousel.presenting, station]
  rfl

end Scoped

theorem facedOf_tasks : (s.facedOf c k).tasks = s.tasks := (postStation_tasks ..).trans presentingOf_tasks
theorem facedOf_discs : (s.facedOf c k).discs = s.discs :=
  (postStation_discs ..).trans (congrArg State.discs (returnPermit_inner ..) :)
theorem facedOf_stamp : (s.facedOf c k).stamp = s.stamp :=
  (postStation_stamp ..).trans (congrArg State.stamp (returnPermit_inner ..) :)

theorem facedOf_bay (r : BayRef) : (s.facedOf c k).bay r = s.bay r := by
  rw [bay_eq, State.facedOf, postStation_carousel, State.presentingOf, returnPermit_carousel, modCarousel_carousel]
  split
  · next own => rw [bay_eq, own]; rfl
  · rfl

theorem facedOf_undisputed (x : Scope) : (s.facedOf c k).undisputed c k x = s.undisputed c k x := by
  simp only [State.undisputed, facedOf_bay]

theorem facedOf_freeEntries : (s.facedOf c k).freeEntries = s.freeEntries := by
  simp only [State.freeEntries, State.disc, facedOf_discs]
  rfl

/-! ## Nothing to count -/

/-- What is deferred where too few entries are free; nothing where no bay is to be counted (R137). -/
def State.deferredOf (s : State) (c : CarouselId) (k : CarrierId) (x : Scope) : Option Scope :=
  if s.undisputed c k x = [] then none else some (x.only (s.undisputed c k x))

/-- A scope that no phase takes is deferred, or goes where it has no bay. -/
theorem handOver_defers {x : Scope} {p : Presentation} (face : (s.carousel c).face = some p) (fresh : p.deferred = none)
    (stuck : s.undisputed c k x = [] ∧ x.sweep = false ∨ s.freeEntries.length < (s.undisputed c k x).length) :
    s.handOver c k x
      = s.modCarousel c fun y => { y with face := some { p with pendingAudit := none, deferred := s.deferredOf c k x } } := by
  have undisputed : (x.bayList.filter fun b => !(s.bay ⟨c, k, b⟩).disputed) = s.undisputed c k x := rfl
  simp only [State.handOver, undisputed, State.deferredOf]
  by_cases none_ : s.undisputed c k x = []
  · rw [if_pos none_, none_]
    have sweep : x.sweep = false := stuck.elim And.right fun few => by rw [none_] at few; exact absurd few (Nat.not_lt_zero _)
    rw [sweep]
    show s.modFace c _ = _
    rw [State.modFace]
    refine modCarousel_congr _ _ ?_
    rw [face, ← fresh]; rfl
  · have few := stuck.resolve_left fun e => none_ e.1
    rw [if_neg none_, if_neg (by simpa using none_), if_pos few, State.defer, State.modFace, modCarousel_modCarousel]
    refine modCarousel_congr _ _ ?_
    rw [Function.comp, face]
    simp [fresh, mergeScope]

end Starts

end Sys2Proof.Machine

/-! A presentation that shows tasks, none at all, or a scope alone (R84 to R87, R137). -/

namespace Sys2Proof.Machine

section Shown

variable {s : State} {c : CarouselId} {k : CarrierId} {x : Scope} {st : StationId}

theorem rest_holdsPermit (m : MotionState) : m.holdsPermit = decide (m ∈ [.moving, .stopping, .suspended]) := by
  cases m <;> rfl

/-- Unheld tasks: all of them are shown (R84 to R86). -/
theorem startPresentation_shows (station : (s.carousel c).cfg.station = some st) (some_ : s.shownOn c k ≠ []) :
    (s.startPresentation c k).carousel c = (s.carousel c).presenting k (s.scopeOn c k)
      ∧ (∀ u, (s.startPresentation c k).task u = match s.task u with
          | none => none
          | some x =>
            if x.state = .queued ∧ x.bay.carousel = c ∧ x.bay.carrier = k ∧ s.isHeld x = false then
              some { x with state := .presented }
            else some x)
      ∧ ∀ q, (s.startPresentation c k).port q
          = postsTo ((stationPort st, .face c k (entriesOf (s.shownOn c k)).length ((entriesOf (s.shownOn c k)).take 18)
                (scopeBays (s.scopeOn c k)))
              :: ((entriesOf (s.shownOn c k)).drop 18).map fun e => (stationPort st, .taskAdded c k e)) q (s.port q) := by
  have presented : ((s.presentingOf c k).showAll (s.shownOn c k)).carousel c
      = (s.carousel c).presenting k (s.scopeOn c k) := (showAll_carousel ..).trans presentingOf_carousel_self
  obtain ⟨carousel, tasks, port⟩ := postFace_writes (k := k) (scope := s.scopeOn c k) (s.shownOn c k)
    ((congrArg (·.cfg.station) presented).trans station)
  rw [startPresentation_of_tasks some_]
  refine ⟨(carousel c).trans presented, fun u => ?_, fun q => ?_⟩
  · have task (u : Ticket) : (s.presentingOf c k).task u = s.task u := congrArg (look · u) presentingOf_tasks
    obtain ⟨shown, kept⟩ := showAll_task (s := s.presentingOf c k) (l := s.shownOn c k)
      (fun a mem => (task _).trans (mem_shownOn.mp mem).1) u
    refine (congrArg (look · u) tasks).trans ?_
    change ((s.presentingOf c k).showAll (s.shownOn c k)).task u = _
    cases stands : s.task u with
    | none => exact (kept fun x mem => nomatch stands.symm.trans (mem_shownOn.mp mem).1).trans ((task u).trans stands)
    | some x =>
      dsimp only
      split
      · next mine => exact shown x (mem_shownOn.mpr ⟨stands, mine⟩)
      · next other =>
        refine (kept fun y mem => ?_).trans ((task u).trans stands)
        obtain ⟨own, mine⟩ := mem_shownOn.mp mem
        obtain rfl := Option.some.inj (stands.symm.trans own)
        exact other mine
  · rw [port, showAll_port, presentingOf_port]

section Scoped

variable (station : (s.carousel c).cfg.station = some st) (none_ : s.shownOn c k = []) (holds : s.scopeOn c k = some x)
  (phase : (s.carousel c).phase = none) (away : ∀ u y, s.task u = some y → y.bay.carousel = c → y.state = .queued)

theorem presentedOn_facedOf (away : ∀ u y, s.task u = some y → y.bay.carousel = c → y.state = .queued) :
    (s.facedOf c k).presentedOn c = [] := by
  refine List.eq_nil_iff_forall_not_mem.mpr fun a mem => ?_
  obtain ⟨stands, presented, on⟩ := mem_presentedOn.mp mem
  have stands : s.task a.1 = some a.2 := (congrArg (look · a.1) facedOf_tasks).symm.trans stands
  exact nomatch presented.symm.trans (away _ _ stands on)

include none_ holds phase away

/-- With free entries the phase begins at once. -/
theorem startPresentation_begins (some_ : s.undisputed c k x ≠ [])
    (enough : (s.undisputed c k x).length ≤ s.freeEntries.length) :
    s.startPresentation c k = ((s.facedOf c k).taken c).beginPhase c k x (s.undisputed c k x) := by
  have faced := facedOf_carousel holds
  have begins := handOver_begins (s := s.facedOf c k) (c := c) (k := k) (scope := x)
    (by rwa [facedOf_undisputed]) (by rwa [facedOf_undisputed, facedOf_freeEntries])
  rw [facedOf_undisputed] at begins
  rw [startPresentation_of_scope none_ (by simp [holds]), ← begins]
  obtain ⟨new, rest⟩ := beginPhase_carousel (s := (s.facedOf c k).taken c) (c := c) (k := k) (scope := x)
    (bays := s.undisputed c k x)
  rw [← begins] at rest
  exact faceTest_of_phase (s := s.facedOf c k) (p := ⟨k, some x, none, false⟩) (congrArg Carousel.face faced)
    ((congrArg Carousel.phase faced).trans phase) (presentedOn_facedOf away) rfl
    (by rw [rest]; exact Option.some_ne_none _)

/-- Without a phase the presentation ends at once. -/
theorem startPresentation_ends
    (stuck : s.undisputed c k x = [] ∧ x.sweep = false ∨ s.freeEntries.length < (s.undisputed c k x).length) :
    s.startPresentation c k
      = ((s.facedOf c k).modCarousel c fun y =>
          { y with face := some ⟨k, none, s.deferredOf c k x, false⟩ }).endPresentation c ⟨k, none, s.deferredOf c k x, false⟩ := by
  have faced := facedOf_carousel holds
  have defers := handOver_defers (s := s.facedOf c k) (c := c) (k := k) (x := x) (p := ⟨k, some x, none, false⟩)
    (congrArg Carousel.face faced) rfl (by rwa [facedOf_undisputed, facedOf_freeEntries])
  rw [State.deferredOf, facedOf_undisputed] at defers
  rw [startPresentation_of_scope none_ (by simp [holds])]
  have ends := faceTest_of_no_phase (s := s.facedOf c k) (c := c) (p := ⟨k, some x, none, false⟩)
    (r := ⟨k, none, s.deferredOf c k x, false⟩) (x := x) (congrArg Carousel.face faced)
    ((congrArg Carousel.phase faced).trans phase) (presentedOn_facedOf away) rfl
    (by rw [defers, modCarousel_carousel_self]; rfl)
    (by rw [defers, modCarousel_carousel_self]; exact (congrArg Carousel.phase faced).trans phase)
  rw [defers] at ends
  exact ends

/-- What the phase that begins at once leaves. -/
theorem startPresentation_begins_writes (station : (s.carousel c).cfg.station = some st) (some_ : s.undisputed c k x ≠ [])
    (enough : (s.undisputed c k x).length ≤ s.freeEntries.length) :
    (∃ new f, (s.startPresentation c k).carousel c
          = { (s.carousel c).presenting k (some x) with
              carriers := new, phase := some f, face := some ⟨k, none, none, false⟩ }
        ∧ f.mode = x.mode ∧ f.sweep = x.sweep
        ∧ ∀ b, (b ∉ s.undisputed c k x → look f.bays b = none)
          ∧ (b ∈ s.undisputed c k x → ∃ o e, look x.bays b = some o ∧ s.disc e = .free
              ∧ (s.startPresentation c k).disc e = .reserved
              ∧ look f.bays b = some ⟨o, (s.bay ⟨c, k, b⟩).count, 0, none, none, e, none⟩))
      ∧ (∀ q, (s.startPresentation c k).bay q
          = if q.carousel = c ∧ q.carrier = k ∧ q.bay ∈ s.undisputed c k x then { s.bay q with auditHold := true }
            else s.bay q)
      ∧ (s.startPresentation c k).tasks = s.tasks
      ∧ ∀ q, (s.startPresentation c k).port q = postsTo
          [(stationPort st, .face c k 0 [] (scopeBays (some x))),
            (stationPort st, .audit c k (Vector.ofFn fun b => decide (b ∈ s.undisputed c k x)))] q (s.port q) := by
  have faced := facedOf_carousel holds
  have from_ : ∀ b ∈ s.undisputed c k x, ∃ o, look x.bays b = some o := fun b => undisputed_from
  have enough' : (s.undisputed c k x).length ≤ ((s.facedOf c k).taken c).freeEntries.length := by
    have : ((s.facedOf c k).taken c).freeEntries = (s.facedOf c k).freeEntries := rfl
    rwa [this, facedOf_freeEntries]
  have taken : ((s.facedOf c k).taken c).carousel c
      = { (s.carousel c).presenting k (some x) with face := some ⟨k, none, none, false⟩ } := by
    rw [taken_carousel_self, faced]; rfl
  have bay (q : BayRef) : ((s.facedOf c k).taken c).bay q = s.bay q := (taken_bay q).trans (facedOf_bay q)
  have disc (e : EntryId) : ((s.facedOf c k).taken c).disc e = s.disc e := congrArg (look · e) facedOf_discs
  rw [startPresentation_begins none_ holds phase away some_ enough]
  obtain ⟨new, rest⟩ := beginPhase_carousel (s := (s.facedOf c k).taken c) (c := c) (k := k) (scope := x)
    (bays := s.undisputed c k x)
  rw [taken] at rest
  refine ⟨⟨new, _, rest, rfl, rfl, fun b => ?_⟩, fun q => ?_, ?_, fun q => ?_⟩
  · have table := phaseOf_bays (c := c) (k := k) enough' undisputed_nodup from_ b
    simp only [disc, bay] at table
    exact table
  · rw [beginPhase_bay enough', bay]
  · exact (beginPhase_tasks ..).trans facedOf_tasks
  · rw [beginPhase_port enough' undisputed_nodup from_ (st := st) (by rw [taken]; exact station)]
    refine (congrArg _ (facedOf_port station holds q)).trans ?_
    rw [← postsTo_append]; rfl

/-- What the presentation that ends at once leaves. -/
theorem startPresentation_ends_writes (station : (s.carousel c).cfg.station = some st)
    (stuck : s.undisputed c k x = [] ∧ x.sweep = false ∨ s.freeEntries.length < (s.undisputed c k x).length) :
    (s.startPresentation c k).carousel c
        = { (s.carousel c).presenting k (some x) with
            motion := ((s.motion c).rest .presenting).rest .idle, face := none,
            calls := ((s.carousel c).presenting k (some x)).calls ++ s.leftCalls c k (s.deferredOf c k x) false }
      ∧ (s.startPresentation c k).tasks = s.tasks ∧ (s.startPresentation c k).discs = s.discs
      ∧ (∀ q, (s.startPresentation c k).bay q = s.bay q) ∧ (s.startPresentation c k).due.select = true
      ∧ ∀ q, (s.startPresentation c k).port q = postsTo
          [(stationPort st, .face c k 0 [] (scopeBays (some x))), (stationPort st, .faceEnd c k)] q (s.port q) := by
  have faced := facedOf_carousel holds
  rw [startPresentation_ends none_ holds phase away stuck]
  let r : Presentation := ⟨k, none, s.deferredOf c k x, false⟩
  have kept := modCarousel_carousel (s.facedOf c k) c (d := c) fun y => { y with face := some r }
  have bays (q : BayRef) : ((s.facedOf c k).modCarousel c fun y => { y with face := some r }).bay q = s.bay q := by
    rw [bay_eq, modCarousel_carousel, ← facedOf_bay (s := s) (c := c) (k := k)]
    split
    · next own => rw [bay_eq, own]
    · rfl
  have port (q : PortId) : ((s.facedOf c k).modCarousel c fun y => { y with face := some r }).port q
      = postsTo [(stationPort st, .face c k 0 [] (scopeBays (some x)))] q (s.port q) := facedOf_port station holds q
  have tasks : ((s.facedOf c k).modCarousel c fun y => { y with face := some r }).tasks = s.tasks := facedOf_tasks
  have discs : ((s.facedOf c k).modCarousel c fun y => { y with face := some r }).discs = s.discs := facedOf_discs
  have stamp : ((s.facedOf c k).modCarousel c fun y => { y with face := some r }).stamp = s.stamp := facedOf_stamp
  rw [if_pos rfl, faced] at kept
  change (State.endPresentation _ c r).carousel c = _ ∧ _
  generalize (s.facedOf c k).modCarousel c (fun y => { y with face := some r }) = v at *
  have task (t : Ticket) : v.task t = s.task t := congrArg (look · t) tasks
  have one : (v.carousel c).callFor r.carrier = none := by
    rw [kept, ← Option.not_isSome_iff_eq_none, callFor_isSome_iff]
    simp [Carousel.presenting, r]
  have there (t : Ticket) (y : Task) (stands : v.task t = some y) (on : y.bay.carousel = c) (gone : y.state = .cancelled) :
      y.bay.carrier = r.carrier :=
    nomatch gone.symm.trans (away t y ((task t).symm.trans stands) on)
  have queued : v.leftCalls c k (s.deferredOf c k x) false = s.leftCalls c k (s.deferredOf c k x) false := by
    rw [State.leftCalls, queuedOn_of_tasks tasks, stamp, State.leftCalls]
  refine ⟨?_, ?_, (endPresentation_discs one there).trans discs, fun q => ?_, ?_, fun q => ?_⟩
  · rw [endPresentation_carousel one there, if_pos rfl, State.motion, kept]
    change Carousel.mk _ _ _ _ _ (_ ++ v.leftCalls c k (s.deferredOf c k x) false) _ _ _ = _
    rw [queued]; rfl
  · refine Vector.ext fun i below => ?_
    have this := endPresentation_task (s := v) (c := c) (p := r) ⟨i, below⟩
    rw [task] at this
    refine this.trans ?_
    change _ = s.task ⟨i, below⟩
    cases stands : s.task ⟨i, below⟩ with
    | none => rfl
    | some y =>
      rw [Option.filter_some, if_pos]
      by_cases on : y.bay.carousel = c
      · simp [Task.tombOn, away _ y stands on]
      · simp [Task.tombOn, on]
  · rw [← bays q, bay_eq, endPresentation_carousel one there, bay_eq]
    split
    · next own => rw [own]
    · rfl
  · exact leaveFace_selects rfl
  · rw [endPresentation_port one there, port, kept, ← postsTo_append]
    simp only [Carousel.presenting, station]
    rfl

end Scoped

/-- Settles O30: unheld tasks are shown, nothing is offered, or a scope is handed over at once. -/
theorem aPresentationShowsTheUnheldTasks : Obligations.APresentationShowsTheUnheldTasks := by
  refine ⟨?shows, ?nothing, ?scope⟩
  case shows =>
    intro c k st s station shown scope entries some_
    exact startPresentation_shows station some_
  case nothing =>
    intro c k s held none_ t
    have idle : t = s.enterIdle c := startPresentation_of_nothing (shownOn_eq_nil held) none_
    rw [idle]
    refine ⟨enterIdle_inner .., ?_, ?_⟩
    · exact returnPermit_ports ..
    · rw [enterIdle_due, rest_holdsPermit]
  case scope =>
    intro c k scope st s station held holds phase away bays m calls t
    have none_ := shownOn_eq_nil held
    refine ⟨fun some_ enough => ?_, fun stuck => ?_⟩
    · obtain ⟨⟨new, f, rest, mode, sweep, table⟩, bay, tasks, port⟩ :=
        startPresentation_begins_writes none_ holds phase away station some_ enough
      exact ⟨congrArg Carousel.motion rest, congrArg Carousel.calls rest, congrArg Carousel.face rest,
        ⟨f, congrArg Carousel.phase rest, mode, sweep, table⟩, bay, tasks, port⟩
    · intro left
      obtain ⟨rest, tasks, discs, bay, select, port⟩ :=
        startPresentation_ends_writes none_ holds phase away station stuck
      exact ⟨congrArg Carousel.motion rest, congrArg Carousel.face rest, (congrArg Carousel.phase rest).trans phase,
        congrArg Carousel.calls rest, tasks, discs, bay, select, port⟩

end Shown

end Sys2Proof.Machine

/-! A presentation that is cut short: FACE_RELEASE and a misposition at the face (R93, R110, R145). -/

namespace Sys2Proof.Machine

section Cut

variable {s : State} {h : Header} {rt : ReplyTo} {c d : CarouselId} {k : CarrierId} {p : Presentation} {f : Phase}
  {left : List (BayId × PhaseBay)} {b : BayId} {x : PhaseBay}

/-! ## A phase is stopped (R145) -/

/-- Unsettled bays lose AUDIT_HOLD, and their reserved entries are freed. -/
def State.unheldFor (s : State) (c : CarouselId) (k : CarrierId) (left : List (BayId × PhaseBay)) : State :=
  left.foldl (fun acc q => (acc.modBay ⟨c, k, q.1⟩ fun b => { b with auditHold := false }).freeEntry q.2.entry) s

theorem unheldFor_cons (a : BayId × PhaseBay) (rest : List (BayId × PhaseBay)) :
    s.unheldFor c k (a :: rest)
      = ((s.modBay ⟨c, k, a.1⟩ fun b => { b with auditHold := false }).freeEntry a.2.entry).unheldFor c k rest := rfl

/-- What unholding bays leaves as it was. -/
theorem unheldFor_rest :
    (∃ new, (s.unheldFor c k left).carousel c = { s.carousel c with carriers := new })
      ∧ (∀ d, d ≠ c → (s.unheldFor c k left).carousel d = s.carousel d)
      ∧ (s.unheldFor c k left).tasks = s.tasks ∧ (s.unheldFor c k left).lanes = s.lanes
      ∧ (s.unheldFor c k left).stamp = s.stamp ∧ (s.unheldFor c k left).ports = s.ports := by
  induction left generalizing s with
  | nil => exact ⟨⟨_, rfl⟩, fun _ _ => rfl, rfl, rfl, rfl, rfl⟩
  | cons a rest ih =>
    rw [unheldFor_cons]
    obtain ⟨⟨new, own⟩, others, tasks, lanes, stamp, ports⟩ :=
      ih (s := (s.modBay ⟨c, k, a.1⟩ fun b => { b with auditHold := false }).freeEntry a.2.entry)
    refine ⟨⟨new, ?_⟩, fun d other => ?_, tasks, lanes, stamp, ports⟩
    · rw [own, freeEntry_carousel, modBay_rest]
    · rw [others d other, freeEntry_carousel, modBay_eq, modCarousel_carousel_ne _ _ (Ne.symm other)]

theorem unheldFor_hold_of_clear (r : BayRef) (clear : (s.bay r).auditHold = false) :
    ((s.unheldFor c k left).bay r).auditHold = false := by
  induction left generalizing s with
  | nil => exact clear
  | cons a rest ih =>
    rw [unheldFor_cons]
    refine ih ?_
    change ((s.modBay ⟨c, k, a.1⟩ fun b => { b with auditHold := false }).bay r).auditHold = false
    rw [modBay_bay]
    split
    · rfl
    · exact clear

theorem unheldFor_disc_of_free (e : EntryId) (free : s.disc e = .free) : (s.unheldFor c k left).disc e = .free := by
  induction left generalizing s with
  | nil => exact free
  | cons a rest ih =>
    rw [unheldFor_cons]
    refine ih ?_
    change ((s.modBay ⟨c, k, a.1⟩ fun b => { b with auditHold := false }).setDisc a.2.entry .free).disc e = .free
    by_cases own : a.2.entry = e
    · rw [own, setDisc_disc_self]
    · rw [setDisc_disc_ne _ _ own]; exact free

theorem unheldFor_clears (mem : (b, x) ∈ left) :
    ((s.unheldFor c k left).bay ⟨c, k, b⟩).auditHold = false ∧ (s.unheldFor c k left).disc x.entry = .free := by
  induction left generalizing s with
  | nil => cases mem
  | cons a rest ih =>
    rw [unheldFor_cons]
    rcases List.mem_cons.mp mem with rfl | mem
    · refine ⟨unheldFor_hold_of_clear _ ?_, unheldFor_disc_of_free _ (setDisc_disc_self ..)⟩
      change ((s.modBay ⟨c, k, b⟩ fun b => { b with auditHold := false }).bay ⟨c, k, b⟩).auditHold = false
      rw [modBay_bay, if_pos rfl]
    · exact ih mem

theorem mem_unsettled : (b, x) ∈ f.unsettled ↔ look f.bays b = some x ∧ x.settled = none := by
  simp only [Phase.unsettled, List.mem_filterMap, List.mem_finRange, true_and]
  constructor
  · rintro ⟨b', e⟩
    split at e
    · cases e
    · next y here =>
      split at e
      · next open_ => cases e; exact ⟨here, by simpa using open_⟩
      · cases e
  · rintro ⟨here, open_⟩
    exact ⟨b, by simp [here, open_]⟩

theorem clearPhase_of_none (none : (s.carousel c).phase = none) : s.clearPhase c k = s := by rw [State.clearPhase, none]

theorem clearPhase_of_some (runs : (s.carousel c).phase = some f) :
    s.clearPhase c k = (s.unheldFor c k f.unsettled).setPhase c none := by rw [State.clearPhase, runs]; rfl

/-- What stopping a phase leaves as it was. -/
theorem clearPhase_rest :
    (∃ new, (s.clearPhase c k).carousel c = { s.carousel c with carriers := new, phase := none })
      ∧ (∀ d, d ≠ c → (s.clearPhase c k).carousel d = s.carousel d)
      ∧ (s.clearPhase c k).tasks = s.tasks ∧ (s.clearPhase c k).lanes = s.lanes
      ∧ (s.clearPhase c k).stamp = s.stamp ∧ (s.clearPhase c k).ports = s.ports := by
  cases runs : (s.carousel c).phase with
  | none =>
    rw [clearPhase_of_none runs]
    exact ⟨⟨(s.carousel c).carriers, by rw [← runs]⟩, fun _ _ => rfl, rfl, rfl, rfl, rfl⟩
  | some f =>
    rw [clearPhase_of_some runs]
    obtain ⟨⟨new, own⟩, others, tasks, lanes, stamp, ports⟩ := unheldFor_rest (s := s) (c := c) (k := k) (left := f.unsettled)
    refine ⟨⟨new, ?_⟩, fun d other => ?_, tasks, lanes, stamp, ports⟩
    · rw [State.setPhase, modCarousel_carousel_self, own]
    · rw [State.setPhase, modCarousel_carousel_ne _ _ (Ne.symm other), others d other]

theorem clearPhase_clears (runs : (s.carousel c).phase = some f) (unsettled : look f.bays b = some x)
    (open_ : x.settled = none) :
    ((s.clearPhase c k).bay ⟨c, k, b⟩).auditHold = false ∧ (s.clearPhase c k).disc x.entry = .free := by
  obtain ⟨hold, disc⟩ := unheldFor_clears (s := s) (c := c) (k := k) (mem_unsettled.mpr ⟨unsettled, open_⟩)
  rw [clearPhase_of_some runs]
  refine ⟨?_, disc⟩
  rw [bay_eq, State.setPhase, modCarousel_carousel_self]
  exact hold

/-! ## A presentation that is cut short -/

theorem requeue_eq (s : State) (c : CarouselId) : ∃ tasks, s.requeue c = { s with tasks := tasks } := by
  rw [State.requeue]
  generalize s.presentedOn c = l
  induction l generalizing s with
  | nil => exact ⟨_, rfl⟩
  | cons a rest ih =>
    obtain ⟨tasks, e⟩ := ih (s.setTask a.1 (some { a.2 with state := .queued }))
    exact ⟨tasks, by rw [List.foldl_cons, e]; rfl⟩

/-- A task as a presentation that is cut short leaves it: PRESENTED is QUEUED again, a tombstone is gone (R93, R110). -/
def cutTaskOf (c : CarouselId) (x : Option Task) : Option Task := (x.map (Task.requeuedOn c)).filter fun y => !y.tombOn c

theorem cutTaskOf_eq (x : Option Task) :
    cutTaskOf c x = match x with
      | none => none
      | some x =>
        if x.bay.carousel = c ∧ x.state = .presented then some { x with state := .queued }
        else if x.bay.carousel = c ∧ x.state = .cancelled then none
        else some x := by
  cases x with
  | none => rfl
  | some x =>
    rw [cutTaskOf, Option.map_some, Option.filter_some]
    by_cases own : x.bay.carousel = c
    · cases state : x.state <;> simp [Task.requeuedOn, Task.tombOn, own, state]
    · simp [Task.requeuedOn, Task.tombOn, own]

/-- The state in which what is left is looked for: tasks QUEUED again, the tombstones gone, the phase stopped, no
presentation. -/
def State.cutFace (s : State) (c : CarouselId) (k : CarrierId) : State :=
  (((s.requeue c).freeTombstones c).clearPhase c k).modCarousel c fun x => { x with face := none }

theorem cutPresentation_eq (aside : Bool) :
    s.cutPresentation c p aside = (s.cutFace c p.carrier).callLeft c p.carrier ((s.carousel c).leftover p) aside := rfl

theorem cutFace_task (t : Ticket) : (s.cutFace c k).task t = cutTaskOf c (s.task t) := by
  refine (congrArg (look · t) (clearPhase_tasks ..)).trans ?_
  exact (freeTombstones_task ..).trans (by rw [requeue_task]; rfl)

section AtFace

variable (one : (s.carousel c).callFor k = none)
  (there : ∀ t x, s.task t = some x → x.bay.carousel = c → x.state ≠ .queued → x.bay.carrier = k)
include one there

theorem freeTombstones_requeue : ∃ tasks freed,
    (s.requeue c).freeTombstones c = { s with tasks := tasks, due := { s.due with freed := freed } } := by
  obtain ⟨tasks, e⟩ := requeue_eq s c
  obtain ⟨tasks', freed, e'⟩ := freeTombstones_at_face (s := s.requeue c) (c := c) (k := k) (by rwa [requeue_carousel])
    fun t x stands on gone => by
      rw [requeue_task] at stands
      obtain ⟨y, own, rfl⟩ := Option.map_eq_some_iff.mp stands
      rw [Task.requeuedOn] at on gone ⊢
      split at gone
      · cases gone
      · next other =>
        rw [if_neg other] at on ⊢
        exact there t y own on (by rw [gone]; nofun)
  exact ⟨tasks', freed, by rw [e', e]⟩

/-- What cutting a presentation short leaves as it was. -/
theorem cutFace_rest :
    (∃ new, (s.cutFace c k).carousel c = { s.carousel c with carriers := new, phase := none, face := none })
      ∧ (∀ d, d ≠ c → (s.cutFace c k).carousel d = s.carousel d)
      ∧ (s.cutFace c k).lanes = s.lanes ∧ (s.cutFace c k).stamp = s.stamp ∧ (s.cutFace c k).ports = s.ports := by
  obtain ⟨tasks, freed, e⟩ := freeTombstones_requeue one there
  obtain ⟨⟨new, own⟩, others, _, lanes, stamp, ports⟩ := clearPhase_rest (s := (s.requeue c).freeTombstones c) (c := c) (k := k)
  rw [e] at own lanes stamp ports
  refine ⟨⟨new, ?_⟩, fun d other => ?_, ?_, ?_, ?_⟩
  · rw [State.cutFace, modCarousel_carousel_self, e, own]; rfl
  · rw [State.cutFace, modCarousel_carousel_ne _ _ (Ne.symm other), others d other, e]; rfl
  · rw [← lanes, ← e]; rfl
  · rw [← stamp, ← e]; rfl
  · rw [← ports, ← e]; rfl

theorem cutFace_clears (runs : (s.carousel c).phase = some f) (unsettled : look f.bays b = some x)
    (open_ : x.settled = none) :
    ((s.cutFace c k).bay ⟨c, k, b⟩).auditHold = false ∧ (s.cutFace c k).disc x.entry = .free := by
  obtain ⟨tasks, freed, e⟩ := freeTombstones_requeue one there
  have phase : (((s.requeue c).freeTombstones c).carousel c).phase = some f := by rw [e]; exact runs
  obtain ⟨hold, disc⟩ := clearPhase_clears (k := k) phase unsettled open_
  refine ⟨?_, disc⟩
  rw [bay_eq, State.cutFace, modCarousel_carousel_self]
  exact hold

end AtFace

/-! ## What it leaves -/

/-- What is left once the presentation is cut short, with what is left to do in a call (R93, R110). -/
structure CutShort (s : State) (c : CarouselId) (p : Presentation) (aside : Bool) (t : State) : Prop where
  task : ∀ u, t.task u = cutTaskOf c (s.task u)
  carousel : ∃ new, t.carousel c = { s.carousel c with
    carriers := new, phase := none, face := none,
    calls := (s.carousel c).calls ++ (if ((s.carousel c).leftover p).isSome ∨ t.queuedOn c p.carrier ≠ [] then
      [⟨p.carrier, s.stamp, 0, (s.carousel c).leftover p, aside⟩] else []) }
  others : ∀ d, d ≠ c → t.carousel d = s.carousel d
  clears : ∀ b f x, (s.carousel c).phase = some f → look f.bays b = some x → x.settled = none →
    (t.bay ⟨c, p.carrier, b⟩).auditHold = false ∧ t.disc x.entry = .free
  lanes : t.lanes = s.lanes
  ports : t.ports = s.ports

theorem cutPresentation_cutShort (aside : Bool) (one : (s.carousel c).callFor p.carrier = none)
    (there : ∀ t x, s.task t = some x → x.bay.carousel = c → x.state ≠ .queued → x.bay.carrier = p.carrier) :
    CutShort s c p aside (s.cutPresentation c p aside) := by
  obtain ⟨⟨new, own⟩, others, lanes, stamp, ports⟩ := cutFace_rest one there
  have clears {b f x} := cutFace_clears (b := b) (f := f) (x := x) one there
  have task := cutFace_task (s := s) (c := c) (k := p.carrier)
  rw [cutPresentation_eq]
  generalize s.cutFace c p.carrier = v at *
  have queued : (v.callLeft c p.carrier ((s.carousel c).leftover p) aside).queuedOn c p.carrier = v.queuedOn c p.carrier :=
    queuedOn_of_tasks callLeft_tasks
  have called := callLeft_carousel_self (s := v) (c := c) (k := p.carrier) (scope := (s.carousel c).leftover p) (aside := aside)
  refine ⟨fun u => (congrArg (look · u) callLeft_tasks).trans (task u), ⟨new, ?_⟩, fun d other => ?_,
    fun b f x runs unsettled open_ => ?_, callLeft_lanes.trans lanes, callLeft_ports.trans ports⟩
  · rw [called, own, queued, State.leftCalls, stamp]
  · exact (callLeft_carousel_ne other).trans (others d other)
  · obtain ⟨hold, disc⟩ := clears runs unsettled open_
    refine ⟨?_, (congrArg (look · x.entry) callLeft_discs).trans disc⟩
    rw [bay_eq, called]
    exact hold

/-! ## FACE_RELEASE (R93) -/

theorem takeFaceRelease_presented (inside : p.carrier.val < (s.carousel c).cfg.n) (face : (s.carousel c).face = some p) :
    s.takeFaceRelease rt c p.carrier
      = ((s.cutPresentation c p true).leaveFace c p.faultFlag).respond rt .done [] := by
  simp only [State.takeFaceRelease, inside, face, not_true_eq_false, if_false, ne_eq]
  rfl

theorem admitted_faceRelease {st : StationId} (ready : s.readyFor h.port) (station : h.port = stationPort st) (v n : Byte) :
    Admitted s (.faceRelease h v n) h .faceRelease [v, n] :=
  ⟨rfl, ready, Nat.le_of_ble_eq_true rfl, by rw [station]; exact isStationPort_stationPort st⟩

/-- A request of a station about a carousel of its own passes the last check. -/
theorem stationMay_own {r : Request} {st : StationId} (of : requestCarousel? r = some c) (own : (s.carousel c).cfg.station = some st) :
    s.stationMay (stationPort st) r = true := by
  rw [State.stationMay, of]; exact stationSends_iff.mpr own

theorem takePosition_misposition {offset : Nat} (inside : offset < (s.carousel c).cfg.n)
    (presenting : (s.motion c).state = .presenting) (held : (s.motion c).held ≠ some offset)
    (face : (s.carousel c).face = some p) :
    s.takePosition rt c offset = (s.mispositionFace c p).respond rt .done [] := by
  rw [takePosition_other inside (by simp [presenting]) held]
  simp only [State.misposition, face]

theorem enterFaulted_carousel {cause : FaultCause} :
    (s.enterFaulted c cause).carousel c = { s.carousel c with motion := (s.motion c).faulted cause } :=
  (congrArg (fun u : State => u.carousel c) (enterFaulted_inner (s := s) (c := c) cause) :).trans
    (modCarousel_carousel_self ..)

theorem enterFaulted_tasks {cause : FaultCause} : (s.enterFaulted c cause).tasks = s.tasks :=
  (congrArg State.tasks (enterFaulted_inner (s := s) (c := c) cause) :)

/-- Settles O27: both cut the presentation short, and leave PRESENTING. -/
theorem releaseAndMispositionCutThePresentation : Obligations.ReleaseAndMispositionCutThePresentation := by
  refine ⟨?release, ?misposition⟩
  case release =>
    intro h c p st s ready station own one face inside there
    have runs := (admitted_faceRelease ready station (byteOf c.val) (byteOf p.carrier.val)).exec_eq_take
      (parse_faceRelease c p.carrier) (by rw [station]; exact stationMay_own rfl own)
    rw [State.take, takeFaceRelease_presented (s := s.accepted h.port) inside face] at runs
    have uncalled : ((s.accepted h.port).carousel c).callFor p.carrier = none :=
      callFor_of_presents (s := s) one (presents_iff.mpr (by rw [face]; rfl))
    have cut := cutPresentation_cutShort (s := s.accepted h.port) true uncalled there
    generalize (s.accepted h.port).cutPresentation c p true = v at *
    obtain ⟨new, carousel⟩ := cut.carousel
    have left (d : CarouselId) := leaveFace_carousel (s := v) (c := c) (d := d) (fault := p.faultFlag)
    have tasks := leaveFace_tasks (s := v) (c := c) (fault := p.faultFlag)
    have discs := leaveFace_discs (s := v) (c := c) (fault := p.faultFlag)
    have lanes := leaveFace_lanes (s := v) (c := c) (fault := p.faultFlag)
    generalize v.leaveFace c p.faultFlag = z at *
    have here : z.carousel c = _ := (left c).trans (if_pos rfl)
    have queued : z.queuedOn c p.carrier = v.queuedOn c p.carrier := queuedOn_of_tasks tasks
    refine ⟨_, runs, fun t => ?_, ?_, ?_, ?_, fun b f q phase unsettled open_ => ?_, ?_, ?_, fun d other => ?_,
      respond_answers z ⟨h.port, RequestCode.byte .faceRelease, h.tag⟩ _ _⟩
    · exact ((congrArg (look · t) tasks).trans (cut.task t)).trans (cutTaskOf_eq _)
    · exact (congrArg Carousel.face here).trans (congrArg Carousel.face carousel)
    · exact (congrArg Carousel.phase here).trans (congrArg Carousel.phase carousel)
    · exact congrArg (·.motion.state) here
    · obtain ⟨hold, disc⟩ := cut.clears b f q phase unsettled open_
      refine ⟨?_, (congrArg (look · q.entry) discs).trans disc⟩
      change ((z.bay ⟨c, p.carrier, b⟩).auditHold) = false
      rw [bay_eq, here]; exact hold
    · refine ((congrArg Carousel.calls here).trans (congrArg Carousel.calls carousel :)).trans ?_
      rw [← queued]; rfl
    · exact lanes.trans cut.lanes
    · exact ((left d).trans (if_neg (Ne.symm other))).trans (cut.others d other)
  case misposition =>
    intro h c offset p s ready drive one inside bound presenting held face there
    have runs := (admitted_position ready drive (byteOf offset)).exec_eq_take (parse_position offset bound) rfl
    simp only [State.take, driveCarousel_of drive] at runs
    rw [takePosition_misposition (s := s.accepted h.port) inside presenting held face, State.mispositionFace] at runs
    have uncalled : ((s.accepted h.port).carousel c).callFor p.carrier = none :=
      callFor_of_presents (s := s) one (presents_iff.mpr (by rw [face]; rfl))
    have cut := cutPresentation_cutShort (s := s.accepted h.port) false uncalled there
    generalize (s.accepted h.port).cutPresentation c p false = v at *
    obtain ⟨new, carousel⟩ := cut.carousel
    have faulted := enterFaulted_carousel (s := v.postStation c (.faceEnd c p.carrier)) (c := c) (cause := .misposition)
    have tasks := enterFaulted_tasks (s := v.postStation c (.faceEnd c p.carrier)) (c := c) (cause := .misposition)
    have port (q : PortId) := enterFaulted_port (v.postStation c (.faceEnd c p.carrier)) c q .misposition
    rw [postStation_carousel, postStation_motion] at faulted
    rw [postStation_tasks] at tasks
    generalize (v.postStation c (.faceEnd c p.carrier)).enterFaulted c .misposition = z at *
    have queued : z.queuedOn c p.carrier = v.queuedOn c p.carrier := queuedOn_of_tasks tasks
    refine ⟨_, runs, fun t => ?_, ?_, ?_, ?_, ?_, ?_, ?_, fun st station => ?_⟩
    · exact ((congrArg (look · t) tasks).trans (cut.task t)).trans (cutTaskOf_eq _)
    · exact (congrArg Carousel.face faulted).trans (congrArg Carousel.face carousel)
    · exact (congrArg Carousel.phase faulted).trans (congrArg Carousel.phase carousel)
    · exact congrArg (·.motion.state) faulted
    · exact congrArg (·.motion.fault) faulted
    · exact (congrArg (·.motion.held) faulted).trans (congrArg (·.motion.held) carousel)
    · refine ((congrArg Carousel.calls faulted).trans (congrArg Carousel.calls carousel :)).trans ?_
      rw [← queued]; rfl
    · have station' : (v.carousel c).cfg.station = some st := (congrArg (·.cfg.station) carousel).trans station
      have notDrive : h.port ≠ stationPort st := by
        rw [drive]; exact fun e => absurd (congrArg Fin.val e) (by simp only [drivePort, stationPort]; omega)
      have notStock : stockPort ≠ stationPort st := fun e =>
        absurd (congrArg Fin.val e) (by simp [stockPort, stationPort])
      rw [respond_port, if_neg notDrive, port, if_neg notStock, postStation_postsTo, station', State.port, cut.ports]
      change postsTo [(stationPort st, Notice.faceEnd c p.carrier)] (stationPort st) ((s.accepted h.port).port (stationPort st)) = _
      rw [accepted_port, if_neg (Ne.symm notDrive), postsTo_cons, if_pos rfl, postsTo_nil]

end Cut

end Sys2Proof.Machine

/-! AUDIT_COUNT: counts, matches, the end of a phase and the advance of a sweep (R133, R139, R140, R144). -/

namespace Sys2Proof.Machine

section Counts

variable {s u v : State} {h : Header} {rt : ReplyTo} {c : CarouselId} {k : CarrierId} {p : Presentation} {f : Phase}
  {b d : BayId} {x y : PhaseBay} {r : BayRef} {counted : Nat} {w : SweepContext} {scope : Scope}

/-! ## A sweep advances (R133) -/

/-- A scope raised for a carrier while the carrier of `p` is presented: it joins the deferred scope, the carrier's call, or
raises a call. -/
def raisedWhile (p : Presentation) (calls : List Call) (stamp : Stamp) (c : CarouselId) (k : CarrierId) (scope : Scope)
    (u : State) : State :=
  if k = p.carrier then
    u.modCarousel c fun z => { z with face := some { p with deferred := mergeScope p.deferred scope } }
  else if ∃ q ∈ calls, q.carrier = k then
    u.modCarousel c fun z => { z with calls := z.calls.map fun q =>
      if q.carrier = k then { q with scope := mergeScope q.scope scope } else q }
  else
    { u.modCarousel c (fun z => { z with calls := z.calls ++ [⟨k, stamp, 0, some scope, false⟩] }) with
      stamp := stamp + 1 }

theorem modCarousel_inner_of (same : u.inner = v.inner) (g : Carousel → Carousel) :
    (u.modCarousel c g).inner = (v.modCarousel c g).inner := by rw [modCarousel_inner, same, modCarousel_inner]

theorem raiseAdvanced_of (face : (u.carousel c).face = some p) :
    u.raiseAdvanced c k scope = if k = p.carrier then u.defer c scope else u.raiseScope c k scope := by
  have presents : (u.carousel c).presents k = true ↔ k = p.carrier := by
    rw [presents_iff, face, Option.map_some, Option.some.injEq, eq_comm]
  rw [State.raiseAdvanced]
  exact if_congr presents rfl rfl

theorem raiseAdvanced_inner (face : (u.carousel c).face = some p) (same : u.inner = v.inner) :
    (u.raiseAdvanced c k scope).inner = (raisedWhile p (u.carousel c).calls u.stamp c k scope v).inner := by
  rw [raiseAdvanced_of face, raisedWhile]
  split_ifs with own called
  · rw [← modCarousel_inner_of same, State.defer]
    exact congrArg State.inner (modCarousel_congr _ _ (by rw [face]; rfl))
  · rw [raiseScope_called (by rw [face]; exact fun e => own (Option.some.inj e).symm) called, dueSelect_inner]
    exact modCarousel_inner_of same _
  · rw [raiseScope_uncalled (by rw [face]; exact fun e => own (Option.some.inj e).symm) called]
    have := modCarousel_inner_of (c := c) same fun z =>
      { z with calls := z.calls ++ [⟨k, u.stamp, 0, some scope, false⟩] }
    exact congrArg (fun t : State => { t with stamp := u.stamp + 1 }) this

theorem raiseAdvanced_ports (face : (u.carousel c).face = some p) : (u.raiseAdvanced c k scope).ports = u.ports := by
  rw [raiseAdvanced_of face]
  split_ifs with own
  · rfl
  · by_cases called : ∃ q ∈ (u.carousel c).calls, q.carrier = k
    · rw [raiseScope_called (by rw [face]; exact fun e => own (Option.some.inj e).symm) called]; rfl
    · rw [raiseScope_uncalled (by rw [face]; exact fun e => own (Option.some.inj e).symm) called]; rfl

theorem raiseAdvanced_due (face : (u.carousel c).face = some p) (select : u.due.select = true) :
    (u.raiseAdvanced c k scope).due = u.due := by
  have selects : ∀ t : State, t.due = u.due → t.dueSelect.due = u.due := fun t e => by
    rw [State.dueSelect, e, ← select]
  rw [raiseAdvanced_of face]
  split_ifs with own
  · rfl
  · by_cases called : ∃ q ∈ (u.carousel c).calls, q.carrier = k
    · rw [raiseScope_called (by rw [face]; exact fun e => own (Option.some.inj e).symm) called]; exact selects _ rfl
    · rw [raiseScope_uncalled (by rw [face]; exact fun e => own (Option.some.inj e).symm) called]; exact selects _ rfl

theorem advanceSweep_of_none (none : (s.carousel c).sweep = none) : s.advanceSweep c = s := by rw [State.advanceSweep, none]

theorem advanceSweep_next (runs : (s.carousel c).sweep = some w) (more : 1 < w.remaining)
    (next : k.val = (w.cursor.val + 1) % (s.carousel c).cfg.n) :
    s.advanceSweep c
      = (s.setSweep c (some { w with cursor := k, remaining := w.remaining - 1 })).raiseAdvanced c k w.scope := by
  have cursor : nextCarrier (s.carousel c).cfg.n w.cursor = k := by
    rw [nextCarrier, ← next]; exact Fin.ext (Nat.mod_eq_of_lt k.isLt)
  simp only [State.advanceSweep, runs, cursor]
  exact if_pos (by omega)

theorem advanceSweep_finished (runs : (s.carousel c).sweep = some w) (last : w.remaining ≤ 1) (once : w.repetition = .once) :
    s.advanceSweep c = (s.setSweep c none).post stockPort (.auditDone c .finished) := by
  simp only [State.advanceSweep, runs, once]
  exact if_neg (by omega)

theorem advanceSweep_round (runs : (s.carousel c).sweep = some w) (last : w.remaining ≤ 1)
    (rolling : w.repetition = .rolling) :
    s.advanceSweep c
      = ((s.setSweep c (some { w with cursor := w.first, remaining := w.n })).post stockPort
          (.auditDone c .round)).raiseAdvanced c w.first w.scope := by
  simp only [State.advanceSweep, runs, rolling]
  exact if_neg (by omega)

/-! ## A phase ends with its last bay (R144) -/

theorem phaseBay?_of (face : (s.carousel c).face = some p) (phase : (s.carousel c).phase = some f)
    (here : look f.bays b = some x) (open_ : x.settled = none) : s.phaseBay? c b = some (p.carrier, f.mode, x) := by
  simp [State.phaseBay?, face, phase, here, open_]

theorem phaseBay?_eq_none
    (away : (s.carousel c).face = none ∨ (s.carousel c).phase = none
      ∨ (∃ f, (s.carousel c).phase = some f ∧ look f.bays b = none)
      ∨ ∃ f x, (s.carousel c).phase = some f ∧ look f.bays b = some x ∧ x.settled ≠ none) :
    s.phaseBay? c b = none := by
  unfold State.phaseBay?
  split
  · next p f face phase =>
    rw [face, phase] at away
    rcases away with e | e | ⟨g, e, out⟩ | ⟨g, x, e, here, settled⟩
    · cases e
    · cases e
    · cases e; simp [out]
    · cases e
      obtain ⟨a, settled⟩ := Option.ne_none_iff_exists'.mp settled
      simp [here, settled]
  · rfl

/-- The phase with one of its bays written. -/
def Phase.write (f : Phase) (b : BayId) (y : PhaseBay) : Phase := { f with bays := put f.bays b (some y) }

theorem modPhaseBay_eq (phase : (s.carousel c).phase = some f) :
    s.modPhaseBay c b y = s.modCarousel c fun z => { z with phase := some (f.write b y) } :=
  modCarousel_congr _ _ (by rw [phase]; rfl)

/-- A settled bay leaves those unsettled that were, and no others. -/
theorem write_unsettled_eq_nil_iff (settled : y.settled ≠ none) :
    (f.write b y).unsettled = [] ↔ ∀ d z, d ≠ b → look f.bays d = some z → z.settled ≠ none := by
  rw [List.eq_nil_iff_forall_not_mem]
  constructor
  · intro none_ d z other here open_
    exact none_ (d, z) (mem_unsettled.mpr ⟨(look_put_ne _ _ (Ne.symm other)).trans here, open_⟩)
  · rintro all ⟨d, z⟩ mem
    obtain ⟨here, open_⟩ := mem_unsettled.mp mem
    by_cases own : d = b
    · subst own
      rw [Phase.write, look_put_self] at here
      exact settled (Option.some.inj here ▸ open_)
    · rw [Phase.write, look_put_ne _ _ (Ne.symm own)] at here
      exact all d z own here open_

theorem endPhaseIfSettled_runs (phase : (s.carousel c).phase = some f) (more : f.unsettled ≠ []) :
    s.endPhaseIfSettled c = s := by
  simp [State.endPhaseIfSettled, phase, more]

theorem endPhaseIfSettled_ends (phase : (s.carousel c).phase = some f) (none_ : f.unsettled = []) :
    s.endPhaseIfSettled c = (if f.sweep then (s.setPhase c none).advanceSweep c else s.setPhase c none).dueFace := by
  simp [State.endPhaseIfSettled, phase, none_]

/-! ## AUDIT_COUNT (R139) -/

theorem admitted_auditCount {st : StationId} (ready : s.readyFor h.port) (station : h.port = stationPort st) (v m n : Byte) :
    Admitted s (.auditCount h v m n) h .auditCount [v, m, n] :=
  ⟨rfl, ready, Nat.le_of_ble_eq_true rfl, by rw [station]; exact isStationPort_stationPort st⟩

theorem takeAuditCount_refused (none : s.phaseBay? c b = none) : s.takeAuditCount rt c b counted = s.refuse rt .wrongState := by
  rw [State.takeAuditCount, none]

theorem takeAuditCount_recount {mode : AuditMode} (runs : s.phaseBay? c b = some (k, mode, x))
    (again : x.judge counted = .recount) :
    s.takeAuditCount rt c b counted = (s.modPhaseBay c b (x.recounted counted)).respond rt .recount [] := by
  simp only [State.takeAuditCount, runs, again]

theorem takeAuditCount_matched {mode : AuditMode} (runs : s.phaseBay? c b = some (k, mode, x))
    (same : x.judge counted = .matched) :
    s.takeAuditCount rt c b counted = ((s.takeCountMatch c ⟨c, k, b⟩ x).releaseHolds).respond rt .done [0, 0xFF] := by
  have body : u8 0 ++ opt8 none = [0, 0xFF] := by decide
  simp only [State.takeAuditCount, runs, same, body]

theorem judge_matched (same : counted = x.snapshot) : x.judge counted = .matched := if_pos same

theorem judge_first (differs : counted ≠ x.snapshot) (first : x.attempt = 0) : x.judge counted = .recount :=
  (if_neg differs).trans (if_pos first)

theorem judge_second (differs : counted ≠ x.snapshot) (second : x.attempt = 1) (unlike : x.first ≠ some counted) :
    x.judge counted = .recount :=
  (if_neg differs).trans ((if_neg (by omega)).trans ((if_pos second).trans (if_neg unlike)))

/-! ## A match (R140) -/

/-- The state in which a bay matched: it is settled, its entry is free again and its AUDIT_HOLD goes. -/
def State.matchedAt (s : State) (c : CarouselId) (r : BayRef) (x : PhaseBay) : State :=
  ((s.modPhaseBay c r.bay (x.settle .matched)).freeEntry x.entry).liftHold r

theorem takeCountMatch_eq : s.takeCountMatch c r x = (s.matchedAt c r x).endPhaseIfSettled c := rfl

theorem liftHold_rest (r : BayRef) (d : CarouselId) :
    ∃ new, (s.liftHold r).carousel d = { s.carousel d with carriers := new } :=
  ⟨_, modBay_rest s d r fun b => { b with auditHold := false }⟩

/-- A matched bay is settled in its phase, and nothing else of its carousel but the bay moves. -/
theorem matchedAt_carousel (phase : (s.carousel c).phase = some f) :
    ∃ new, (s.matchedAt c r x).carousel c
      = { s.carousel c with carriers := new, phase := some (f.write r.bay (x.settle .matched)) } := by
  obtain ⟨new, rest⟩ := liftHold_rest (s := (s.modPhaseBay c r.bay (x.settle .matched)).freeEntry x.entry) r c
  refine ⟨new, rest.trans ?_⟩
  rw [freeEntry_carousel, modPhaseBay_eq phase, modCarousel_carousel_self]

theorem matchedAt_inner (phase : (s.carousel c).phase = some f) (same : s.inner = u.inner) :
    (s.matchedAt c r x).inner
      = ((((u.modCarousel c fun z => { z with phase := some (f.write r.bay (x.settle .matched)) }).setDisc x.entry
          .free).modBay r fun z => { z with auditHold := false })).inner := by
  have lhs : (s.matchedAt c r x).inner
      = (((s.modPhaseBay c r.bay (x.settle .matched)).setDisc x.entry .free).modBay r fun z => { z with auditHold := false }).inner :=
    rfl
  rw [lhs, modPhaseBay_eq phase, modBay_inner, modBay_inner, setDisc_inner, setDisc_inner, modCarousel_inner, same,
    modCarousel_inner]

/-- The matched bay with the phase gone and the sweep context written. -/
theorem matchedAt_ended_inner (same : s.inner = u.inner) (w : Option SweepContext) :
    (((s.matchedAt c ⟨c, k, b⟩ x).setPhase c none).setSweep c w).inner
      = (((u.setDisc x.entry .free).modBay ⟨c, k, b⟩ fun z => { z with auditHold := false }).modCarousel c fun z =>
          { z with phase := none, sweep := w }).inner := by
  have bay (t : State) (g : Bay → Bay) := modBay_eq t ⟨c, k, b⟩ g
  have lhs : ((s.matchedAt c ⟨c, k, b⟩ x).setPhase c none).setSweep c w
      = ((((((s.freeEntry x.entry).modPhaseBay c b (x.settle .matched)).modBay ⟨c, k, b⟩ fun z =>
          { z with auditHold := false }).setPhase c none).setSweep c w).dueUnhold) := rfl
  have freed : (s.freeEntry x.entry).inner = (u.setDisc x.entry .free).inner := by
    rw [State.freeEntry, dueSelect_inner, setDisc_inner, same, setDisc_inner]
  rw [lhs, bay, bay, State.setSweep, State.setPhase, State.modPhaseBay]
  simp only [modCarousel_modCarousel, dueUnhold_inner, modCarousel_inner, freed]
  rfl

/-- What the end of a phase without a sweep to advance leaves: the phase is gone. -/
theorem setPhase_setSweep_same (w : Option SweepContext) (same : (s.carousel c).sweep = w) :
    s.setPhase c none = (s.setPhase c none).setSweep c w := by
  rw [State.setSweep, State.setPhase, modCarousel_modCarousel]
  exact modCarousel_congr _ _ (by rw [← same]; rfl)

theorem matchedAt_due : (s.matchedAt c r x).due = { s.due with unhold := true, select := true } := rfl
theorem matchedAt_ports : (s.matchedAt c r x).ports = s.ports := rfl
theorem matchedAt_stamp : (s.matchedAt c r x).stamp = s.stamp := rfl

/-! ## The last bay matches (R144, R133) -/

/-- AUDIT_COUNT matches a bay: `v` is what its request leaves before its phase is looked at. -/
structure Matches (s : State) (h : Header) (c : CarouselId) (p : Presentation) (f : Phase) (b : BayId) (x : PhaseBay)
    (v : State) : Prop where
  runs : exec (.auditCount h (byteOf c.val) (byteOf b.val) (byteOf x.snapshot)) s
    = .next (((v.endPhaseIfSettled c).releaseHolds).respond ⟨h.port, RequestCode.byte .auditCount, h.tag⟩ .done
        [0, 0xFF]).settle
  due : v.due = { unhold := true, select := true }
  port : ∀ q, v.port q = if q = h.port then (s.port q).taken else s.port q
  carousel : ∃ new, v.carousel c
    = { s.carousel c with carriers := new, phase := some (f.write b (x.settle .matched)) }
  stamp : v.stamp = s.stamp
  inner : v.inner = ((((s.modCarousel c fun z => { z with phase := some (f.write b (x.settle .matched)) }).setDisc x.entry
    .free).modBay ⟨c, p.carrier, b⟩ fun z => { z with auditHold := false })).inner
  ended : ∀ w, ((v.setPhase c none).setSweep c w).inner
    = (((s.setDisc x.entry .free).modBay ⟨c, p.carrier, b⟩ fun z => { z with auditHold := false }).modCarousel c fun z =>
        { z with phase := none, sweep := w }).inner

theorem exists_matches {st : StationId} (ready : s.readyFor h.port) (station : h.port = stationPort st)
    (own : (s.carousel c).cfg.station = some st) (bound : x.snapshot ≤ 15) (face : (s.carousel c).face = some p)
    (phase : (s.carousel c).phase = some f) (here : look f.bays b = some x) (open_ : x.settled = none) :
    ∃ v, Matches s h c p f b x v := by
  have runs := (admitted_auditCount ready station (byteOf c.val) (byteOf b.val) (byteOf x.snapshot)).exec_eq_take
    (parse_auditCount c b x.snapshot bound) (by rw [station]; exact stationMay_own rfl own)
  rw [State.take, takeAuditCount_matched (s := s.accepted h.port) (phaseBay?_of face phase here open_) (judge_matched rfl),
    takeCountMatch_eq] at runs
  have port (q : PortId) : ((s.accepted h.port).matchedAt c ⟨c, p.carrier, b⟩ x).port q
      = if q = h.port then (s.port q).taken else s.port q := by
    rw [State.port, matchedAt_ports]; exact accepted_port ..
  exact ⟨_, runs, matchedAt_due, port,
    matchedAt_carousel (s := s.accepted h.port) phase, matchedAt_stamp,
    matchedAt_inner (s := s.accepted h.port) phase (accepted_inner ..), matchedAt_ended_inner (accepted_inner ..)⟩

/-- An AUDIT_COUNT that ends its phase: the notices it posts, the sweep context it leaves, and what else `u` says. -/
def EndsPhase (s : State) (h : Header) (c : CarouselId) (p : Presentation) (b : BayId) (x : PhaseBay)
    (posts : List (PortId × Notice)) (w : Option SweepContext) (u : State → State) : Prop :=
  ∃ y : State,
    exec (.auditCount h (byteOf c.val) (byteOf b.val) (byteOf x.snapshot)) s
        = .next (y.releaseHolds.respond ⟨h.port, RequestCode.byte .auditCount, h.tag⟩ .done [0, 0xFF]).settle
      ∧ y.inner = (u (((s.setDisc x.entry .free).modBay ⟨c, p.carrier, b⟩ fun z =>
          { z with auditHold := false }).modCarousel c fun z => { z with phase := none, sweep := w })).inner
      ∧ y.due = { unhold := true, select := true, face := true }
      ∧ ∀ q, y.port q = postsTo posts q (if q = h.port then (s.port q).taken else s.port q)

section Last

variable (done : Matches s h c p f b x v) (last : ∀ d z, d ≠ b → look f.bays d = some z → z.settled ≠ none)
include done last

theorem Matches.ends :
    v.endPhaseIfSettled c = (if f.sweep then (v.setPhase c none).advanceSweep c else v.setPhase c none).dueFace := by
  obtain ⟨new, rest⟩ := done.carousel
  have none_ : (f.write b (x.settle .matched)).unsettled = [] :=
    (write_unsettled_eq_nil_iff (by simp [PhaseBay.settle])).mpr last
  exact endPhaseIfSettled_ends (f := f.write b (x.settle .matched)) (congrArg Carousel.phase rest) none_

/-- The phase ends, and no sweep advances. -/
theorem Matches.endsPhase_plain (w : Option SweepContext) (same : (s.carousel c).sweep = w)
    (still : f.sweep = false ∨ w = none) : EndsPhase s h c p b x [] w id := by
  obtain ⟨new, rest⟩ := done.carousel
  have sweep : (v.carousel c).sweep = w := (congrArg Carousel.sweep rest).trans same
  have plain : (if f.sweep then (v.setPhase c none).advanceSweep c else v.setPhase c none)
      = (v.setPhase c none).setSweep c w := by
    rw [← setPhase_setSweep_same w sweep]
    rcases still with off | gone
    · rw [off]; rfl
    · rw [advanceSweep_of_none (by rw [State.setPhase, modCarousel_carousel_self]; exact sweep.trans gone), ite_self]
  refine ⟨((v.setPhase c none).setSweep c w).dueFace, ?_, done.ended w,
    congrArg (fun d : Due => { d with face := true }) done.due, fun q => (done.port q).trans (postsTo_nil ..).symm⟩
  rw [done.runs, done.ends last, plain]

section Sweep

variable {w : SweepContext} (swept : f.sweep = true) (sweep : (s.carousel c).sweep = some w)
include swept sweep

theorem Matches.advances : v.endPhaseIfSettled c = ((v.setPhase c none).advanceSweep c).dueFace
    ∧ ((v.setPhase c none).carousel c).sweep = some w := by
  obtain ⟨new, rest⟩ := done.carousel
  refine ⟨by rw [done.ends last, swept]; rfl, ?_⟩
  rw [State.setPhase, modCarousel_carousel_self]
  exact (congrArg Carousel.sweep rest).trans sweep

/-- The phase ends, and the sweep is finished. -/
theorem Matches.endsPhase_finished (least : w.remaining ≤ 1) (once : w.repetition = .once) :
    EndsPhase s h c p b x [(stockPort, .auditDone c .finished)] none id := by
  obtain ⟨ends, context⟩ := done.advances last swept sweep
  rw [advanceSweep_finished context least once] at ends
  refine ⟨(((v.setPhase c none).setSweep c none).post stockPort (.auditDone c .finished)).dueFace,
    by rw [done.runs, ends], done.ended none, congrArg (fun d : Due => { d with face := true }) done.due, fun q => ?_⟩
  exact (post_postsTo ..).trans (congrArg _ (done.port q))

/-- The phase ends, and a scope is raised for a carrier of the sweep. -/
theorem Matches.endsPhase_raised (face : (s.carousel c).face = some p) {z : State} (w' : SweepContext)
    (posts : List (PortId × Notice)) (inner : z.inner = ((v.setPhase c none).setSweep c (some w')).inner)
    (due : z.due = v.due) (port : ∀ q, z.port q = postsTo posts q (v.port q))
    (advances : (v.setPhase c none).advanceSweep c = z.raiseAdvanced c k w.scope) :
    EndsPhase s h c p b x posts (some w') (raisedWhile p (s.carousel c).calls s.stamp c k w.scope) := by
  obtain ⟨ends, _⟩ := done.advances last swept sweep
  obtain ⟨new, rest⟩ := done.carousel
  have carousel : z.carousel c
      = { s.carousel c with carriers := new, phase := none, sweep := some w' } := by
    refine (congrArg (fun t : State => t.carousel c) inner :).trans ?_
    change ((v.setPhase c none).setSweep c (some w')).carousel c = _
    rw [State.setSweep, modCarousel_carousel_self, State.setPhase, modCarousel_carousel_self, rest]
  have faced : (z.carousel c).face = some p := (congrArg Carousel.face carousel).trans face
  have raised := raiseAdvanced_inner (k := k) (scope := w.scope) faced (inner.trans (done.ended (some w')))
  rw [congrArg Carousel.calls carousel, show z.stamp = s.stamp from (congrArg State.stamp inner).trans done.stamp] at raised
  rw [advances] at ends
  refine ⟨(z.raiseAdvanced c k w.scope).dueFace, by rw [done.runs, ends], raised, ?_, fun q => ?_⟩
  · exact congrArg (fun d : Due => { d with face := true })
      ((raiseAdvanced_due faced (by rw [due, done.due])).trans (due.trans done.due))
  · refine (congrArg (look · q) (raiseAdvanced_ports faced) :).trans ((port q).trans ?_)
    rw [done.port]

end Sweep

end Last

/-- Settles O33: a match, a count to repeat, a refusal, and the end of a phase with its sweep. -/
theorem auditCountIsJudgedAgainstTheSnapshot : Obligations.AuditCountIsJudgedAgainstTheSnapshot := by
  refine ⟨?counts, ?refused, ?last⟩
  case counts =>
    intro h c b counted p f x st s ready station own bound face phase here open_ i stored
    have admitted : Admitted s i h .auditCount _ := admitted_auditCount ready station _ _ _
    have read := parse_auditCount c b counted bound
    have may : s.stationMay h.port (.auditCount c b counted) = true := by rw [station]; exact stationMay_own rfl own
    have runs := phaseBay?_of (s := s.accepted h.port) face phase here open_
    refine ⟨fun same more => ?_, fun differs first => ?_, fun differs second unlike => ?_⟩
    · subst same
      obtain ⟨d, y, other, there, unsettled⟩ := more
      obtain ⟨v, done⟩ := exists_matches ready station own bound face phase here open_
      obtain ⟨new, rest⟩ := done.carousel
      have more : (f.write b (x.settle .matched)).unsettled ≠ [] := fun none_ =>
        (write_unsettled_eq_nil_iff (by simp [PhaseBay.settle])).mp none_ d y other there unsettled
      have stays : v.endPhaseIfSettled c = v := endPhaseIfSettled_runs (congrArg Carousel.phase rest) more
      exact ⟨v, by rw [← stays, ← done.runs], done.inner, done.due, done.port⟩
    · refine admitted.completes_of_take_respond _ read may
        (takeAuditCount_recount runs (judge_first differs first)) rfl ?_ fun _ => rfl
      rw [modPhaseBay_eq (s := s.accepted h.port) phase, PhaseBay.recounted, if_pos first]; rfl
    · refine admitted.completes_of_take_respond _ read may
        (takeAuditCount_recount runs (judge_second differs second unlike)) rfl ?_ fun _ => rfl
      rw [modPhaseBay_eq (s := s.accepted h.port) phase, PhaseBay.recounted, if_neg (by omega), second]; rfl
  case refused =>
    intro h c b counted st s ready station own bound away
    exact (admitted_auditCount ready station _ _ _).completes_of_take_refuse (parse_auditCount c b counted bound)
      (by rw [station]; exact stationMay_own rfl own)
      (takeAuditCount_refused (s := s.accepted h.port) (phaseBay?_eq_none away))
  case last =>
    intro h c b p f x st s ready station own bound face phase here open_ last ended raised
    obtain ⟨v, done⟩ := exists_matches ready station own bound face phase here open_
    obtain ⟨new, rest⟩ := done.carousel
    refine ⟨fun off => done.endsPhase_plain last _ rfl (.inl off), fun none_ => done.endsPhase_plain last none none_ (.inr rfl),
      fun w swept sweep => ⟨fun k more next => ?_, fun least once => done.endsPhase_finished last swept sweep least once,
        fun least rolling => ?_⟩⟩
    · obtain ⟨_, context⟩ := done.advances last swept sweep
      have cfg : ((v.setPhase c none).carousel c).cfg = (s.carousel c).cfg := by
        rw [State.setPhase, modCarousel_carousel_self]; exact (congrArg Carousel.cfg rest :)
      exact done.endsPhase_raised last swept sweep face { w with cursor := k, remaining := w.remaining - 1 } [] rfl rfl
        (fun q => (postsTo_nil ..).symm) (advanceSweep_next context more (by rw [cfg]; exact next))
    · obtain ⟨_, context⟩ := done.advances last swept sweep
      exact done.endsPhase_raised last swept sweep face (z := ((v.setPhase c none).setSweep c (some { w with
        cursor := w.first, remaining := w.n })).post stockPort (.auditDone c .round)) { w with
        cursor := w.first, remaining := w.n } [(stockPort, .auditDone c .round)] rfl rfl (fun q => post_postsTo ..) (advanceSweep_round context least rolling)

end Counts

end Sys2Proof.Machine

/-! AUDIT_COUNT: a discrepancy, and its outcome in a REVIEW phase (R139, R141, R143). -/

namespace Sys2Proof.Machine

section Reviews

variable {s u v : State} {h : Header} {rt : ReplyTo} {c d : CarouselId} {k : CarrierId} {p : Presentation} {f : Phase}
  {b : BayId} {x : PhaseBay} {r : BayRef} {counted : Nat} {unsteady : Bool} {mode : AuditMode}

/-! ## A discrepancy (R139) -/

theorem judge_discrepancy (differs : counted ≠ x.snapshot) (final : x.attempt = 1 ∧ x.first = some counted ∨ 2 ≤ x.attempt) :
    x.judge counted
      = .discrepancy (decide (2 ≤ x.attempt ∧ x.first ≠ some counted ∧ x.second ≠ some counted)) := by
  rw [PhaseBay.judge, if_neg differs]
  rcases final with ⟨second, same⟩ | third
  · rw [if_neg (by omega), if_pos second, if_pos same, second]; rfl
  · rw [if_neg (by omega), if_neg (by omega)]
    by_cases seen : x.first = some counted ∨ x.second = some counted
    · rw [if_pos seen, decide_eq_false]
      rintro ⟨_, first, second⟩
      exact seen.elim first second
    · rw [if_neg seen, decide_eq_true]
      exact ⟨third, not_or.mp seen⟩

/-- The state in which the outcome of a discrepancy is taken: the bay is settled in its phase. -/
def State.settledAt (s : State) (c : CarouselId) (b : BayId) (x : PhaseBay) : State :=
  s.modPhaseBay c b (x.settle .discrepancy)

theorem takeAuditCount_discrepancy (runs : s.phaseBay? c b = some (k, mode, x))
    (differs : x.judge counted = .discrepancy unsteady) :
    s.takeAuditCount rt c b counted
      = (((((s.settledAt c b x).takeOutcome ⟨c, k, b⟩ mode x counted unsteady).endPhaseIfSettled c)).releaseHolds).respond rt
          .done [1, byteOf x.entry.val] := by
  have body : u8 1 ++ u8 x.entry.val = [1, byteOf x.entry.val] := by simp [u8, bytesOf, byteOf]
  simp only [State.takeAuditCount, runs, differs, body]
  rfl

theorem settledAt_eq (phase : (s.carousel c).phase = some f) :
    s.settledAt c b x = s.modCarousel c fun z => { z with phase := some (f.write b (x.settle .discrepancy)) } :=
  modPhaseBay_eq phase

theorem settledAt_bay (q : BayRef) : (s.settledAt c b x).bay q = s.bay q := by
  rw [bay_eq, State.settledAt, State.modPhaseBay, modCarousel_carousel]
  split
  · next own => rw [bay_eq, own]
  · rfl

/-- An AUDIT_COUNT that ends in a discrepancy runs its outcome. -/
theorem exec_auditCount_discrepancy {st : StationId} (ready : s.readyFor h.port) (station : h.port = stationPort st)
    (own : (s.carousel c).cfg.station = some st) (bound : counted ≤ 15) (face : (s.carousel c).face = some p)
    (phase : (s.carousel c).phase = some f) (here : look f.bays b = some x) (open_ : x.settled = none)
    (differs : x.judge counted = .discrepancy unsteady) :
    exec (.auditCount h (byteOf c.val) (byteOf b.val) (byteOf counted)) s
      = .next ((((((s.accepted h.port).settledAt c b x).takeOutcome ⟨c, p.carrier, b⟩ f.mode x counted
          unsteady).endPhaseIfSettled c).releaseHolds).respond ⟨h.port, RequestCode.byte .auditCount, h.tag⟩ .done
          [1, byteOf x.entry.val]).settle := by
  have runs := (admitted_auditCount ready station (byteOf c.val) (byteOf b.val) (byteOf counted)).exec_eq_take
    (parse_auditCount c b counted bound) (by rw [station]; exact stationMay_own rfl own)
  rwa [State.take, takeAuditCount_discrepancy (s := s.accepted h.port) (phaseBay?_of face phase here open_) differs] at runs

/-! ## REVIEW (R143) -/

/-- The record of a discrepancy as it opens (R141). -/
def State.openRecord (s : State) (r : BayRef) (x : PhaseBay) (counted : Nat) (unsteady : Bool) : DiscRecord :=
  { origin := x.origin, bay := r, lot := (s.bay r).lot.map fun l => (l.article, l.week), book := x.snapshot,
    counted := counted, attempts := x.attempt + 1, kind := discKind (s.bay r) x.snapshot counted, unsteady := unsteady,
    cut := 0, trimmed := 0, state := .opened }

/-- A record is written, reported and made due for selection (R135, R141). -/
def State.recorded (s : State) (e : EntryId) (z : DiscRecord) : State :=
  ((s.writeRecord e z).postDiscrepancy e z).dueSelect

section Recorded

variable (e : EntryId) (z : DiscRecord)

theorem recorded_bay (q : BayRef) : (s.recorded e z).bay q = s.bay q := rfl
theorem recorded_carousel (d : CarouselId) : (s.recorded e z).carousel d = s.carousel d := rfl
theorem recorded_discs : (s.recorded e z).discs = put s.discs e (.record z) := rfl
theorem recorded_discOrder : (s.recorded e z).discOrder = s.discOrder ++ [e] := rfl
theorem recorded_tasks : (s.recorded e z).tasks = s.tasks := rfl
theorem recorded_lanes : (s.recorded e z).lanes = s.lanes := rfl
theorem recorded_globals : (s.recorded e z).globals = s.globals := rfl
theorem recorded_due : (s.recorded e z).due = { s.due with select := true } := rfl

theorem recorded_port (q : PortId) :
    (s.recorded e z).port q
      = postsTo [(stockPort, .discrepancy e z.bay z.kind z.book z.counted z.state z.cut z.trimmed)] q (s.port q) :=
  post_postsTo ..

end Recorded

theorem takeOutcome_review (reviews : outcomeMode mode (discKind (s.bay r) x.snapshot counted) unsteady counted
      (s.stackLimitOf r) = .review) :
    s.takeOutcome r mode x counted unsteady
      = (s.modBay r fun y => { y with disputed := true, auditHold := false }).recorded x.entry
          (s.openRecord r x counted unsteady) := by
  simp only [State.takeOutcome, reviews]
  rfl

/-- What the outcome of a REVIEW leaves. -/
structure Reviewed (s : State) (r : BayRef) (x : PhaseBay) (record : DiscRecord) (v : State) : Prop where
  bay : ∀ q, v.bay q = if q = r then { s.bay q with disputed := true, auditHold := false } else s.bay q
  discs : v.discs = put s.discs x.entry (.record record)
  discOrder : v.discOrder = s.discOrder ++ [x.entry]
  tasks : v.tasks = s.tasks
  lanes : v.lanes = s.lanes
  globals : v.globals = s.globals
  others : ∀ d, d ≠ r.carousel → v.carousel d = s.carousel d
  carousel : ∃ new, v.carousel r.carousel = { s.carousel r.carousel with carriers := new }
  face : v.due.face = s.due.face
  port : ∀ q, v.port q = postsTo [(stockPort, .discrepancy x.entry record.bay record.kind record.book record.counted
    record.state record.cut record.trimmed)] q (s.port q)

theorem reviewed_recorded (record : DiscRecord) :
    Reviewed s r x record ((s.modBay r fun y => { y with disputed := true, auditHold := false }).recorded x.entry record) := by
  have bay (q : BayRef) := modBay_bay s r (fun y => { y with disputed := true, auditHold := false }) q
  have rest := modBay_rest s r.carousel r fun y => { y with disputed := true, auditHold := false }
  have others (d : CarouselId) (other : d ≠ r.carousel) :
      (s.modBay r fun y => { y with disputed := true, auditHold := false }).carousel d = s.carousel d := by
    rw [modBay_eq, modCarousel_carousel_ne _ _ (Ne.symm other)]
  exact
    { bay := fun q => (recorded_bay ..).trans (bay q)
      discs := recorded_discs ..
      discOrder := recorded_discOrder ..
      tasks := recorded_tasks ..
      lanes := recorded_lanes ..
      globals := recorded_globals ..
      others := fun d other => (recorded_carousel ..).trans (others d other)
      carousel := ⟨_, (recorded_carousel ..).trans rest⟩
      face := (congrArg Due.face (recorded_due (s := s.modBay r fun y => { y with disputed := true, auditHold := false }) ..) :)
      port := fun q => recorded_port .. }

/-! ## The phase after it (R144) -/

theorem unsettled_eq_nil_iff_all :
    (∀ d z, d ≠ b → look f.bays d = some z → z.settled ≠ none)
      ↔ (List.finRange 4).all (fun d => decide (d = b) || (look f.bays d).all fun y => y.settled.isSome) = true := by
  simp only [List.all_eq_true, List.mem_finRange, true_implies, Bool.or_eq_true, decide_eq_true_eq, Option.all_eq_true,
    Option.isSome_iff_ne_none]
  exact forall_congr' fun d => ⟨fun all => or_iff_not_imp_left.mpr fun other z here => all z other here,
    fun all z other here => all.resolve_left other z here⟩

/-- A phase whose bay was settled goes on, or ends where it was the last and no sweep is to advance. -/
theorem endPhaseIfSettled_settled (phase : (v.carousel c).phase = some (f.write b (x.settle .discrepancy)))
    (plain : (∃ d z, d ≠ b ∧ look f.bays d = some z ∧ z.settled = none) ∨ f.sweep = false) :
    v.endPhaseIfSettled c
      = if (List.finRange 4).all (fun d => decide (d = b) || (look f.bays d).all fun y => y.settled.isSome) then
          (v.setPhase c none).dueFace
        else v := by
  have settled : (x.settle .discrepancy).settled ≠ none := by simp [PhaseBay.settle]
  by_cases last : ∀ d z, d ≠ b → look f.bays d = some z → z.settled ≠ none
  · have off : f.sweep = false := plain.resolve_left fun ⟨d, z, other, here, open_⟩ => last d z other here open_
    rw [if_pos (unsettled_eq_nil_iff_all.mp last),
      endPhaseIfSettled_ends phase ((write_unsettled_eq_nil_iff settled).mpr last)]
    change (if f.sweep then _ else _ : State).dueFace = _
    rw [off]; rfl
  · rw [if_neg (mt unsettled_eq_nil_iff_all.mpr last),
      endPhaseIfSettled_runs phase (mt (write_unsettled_eq_nil_iff settled).mp last)]

/-- Settles O34: the outcome of a REVIEW, and the phase after it. -/
theorem aReviewedDiscrepancyDisputesTheBay : Obligations.AReviewedDiscrepancyDisputesTheBay := by
  intro h c b counted p f x st s ready station own bound face phase here open_ review differs final plain r last kind entry
  have runs := exec_auditCount_discrepancy ready station own bound face phase here open_ (judge_discrepancy differs final)
  have bays (q : BayRef) : ((s.accepted h.port).settledAt c b x).bay q = s.bay q := settledAt_bay q
  have record : ((s.accepted h.port).settledAt c b x).openRecord r x counted
      (decide (2 ≤ x.attempt ∧ x.first ≠ some counted ∧ x.second ≠ some counted)) = entry := by
    simp only [State.openRecord, bays, entry, kind, discKind, Option.isNone_iff_eq_none]
  rw [takeOutcome_review (by rw [review]; unfold outcomeMode; exact ite_self _), record] at runs
  have done := reviewed_recorded (s := (s.accepted h.port).settledAt c b x) (r := r) (x := x) entry
  obtain ⟨new, carousel⟩ := done.carousel
  have settled := settledAt_eq (s := s.accepted h.port) (b := b) (x := x) phase
  have kept (d : CarouselId) : ((s.accepted h.port).settledAt c b x).carousel d
      = if c = d then { s.carousel c with phase := some (f.write b (x.settle .discrepancy)) } else s.carousel d := by
    rw [settled]; exact modCarousel_carousel ..
  have port (q : PortId) : ((s.accepted h.port).settledAt c b x).port q = if q = h.port then (s.port q).taken else s.port q := by
    rw [settled]; exact accepted_port ..
  have frame : ((s.accepted h.port).settledAt c b x).discs = s.discs
      ∧ ((s.accepted h.port).settledAt c b x).discOrder = s.discOrder
      ∧ ((s.accepted h.port).settledAt c b x).tasks = s.tasks ∧ ((s.accepted h.port).settledAt c b x).lanes = s.lanes
      ∧ ((s.accepted h.port).settledAt c b x).globals = s.globals
      ∧ ((s.accepted h.port).settledAt c b x).due.face = false := by
    rw [settled]; exact ⟨rfl, rfl, rfl, rfl, rfl, rfl⟩
  obtain ⟨discs, discOrder, tasks, lanes, globals, due⟩ := frame
  generalize (s.accepted h.port).settledAt c b x = u at *
  generalize (u.modBay r fun y => { y with disputed := true, auditHold := false }).recorded x.entry entry = v at *
  have rest : v.carousel c = { s.carousel c with
      carriers := new, phase := some (f.write b (x.settle .discrepancy)) } := by
    refine carousel.trans ?_
    change ({ u.carousel c with carriers := new } : Carousel) = _
    rw [kept, if_pos rfl]
  rw [endPhaseIfSettled_settled (congrArg Carousel.phase rest) plain] at runs
  have bay (q : BayRef) : v.bay q = if q = r then { s.bay q with disputed := true, auditHold := false } else s.bay q := by
    rw [done.bay, bays]
  have others (d : CarouselId) (other : d ≠ c) : v.carousel d = s.carousel d := by
    rw [done.others d other, kept, if_neg (Ne.symm other)]
  have ports (q : PortId) : v.port q = postsTo [(stockPort, .discrepancy x.entry r kind x.snapshot counted .opened 0 0)] q
      (if q = h.port then (s.port q).taken else s.port q) := by
    rw [done.port, port]
  cases ended : last with
  | true =>
    rw [if_pos ended] at runs
    have gone : (v.setPhase c none).carousel c = { v.carousel c with phase := none } := modCarousel_carousel_self ..
    have kept' (d : CarouselId) (other : d ≠ c) : (v.setPhase c none).carousel d = v.carousel d :=
      modCarousel_carousel_ne _ _ (Ne.symm other)
    have bay' (q : BayRef) : (v.setPhase c none).bay q = v.bay q := by
      rw [bay_eq, State.setPhase, modCarousel_carousel]
      split
      · next own => rw [bay_eq, own]
      · rfl
    refine ⟨(v.setPhase c none).dueFace, runs, ?_, fun q other => ?_, done.discs.trans (by rw [discs]),
      done.discOrder.trans (by rw [discOrder]), done.tasks.trans tasks, done.lanes.trans lanes, done.globals.trans globals,
      fun d other => ?_, ?_, rfl, ?_, ?_, ports⟩
    · exact (bay' r).trans ((bay r).trans (if_pos rfl))
    · exact (bay' q).trans ((bay q).trans (if_neg other))
    · exact (kept' d other).trans (others d other)
    · exact congrArg Carousel.phase gone
    · exact (congrArg Carousel.motion gone).trans (congrArg Carousel.motion rest :)
    · exact (congrArg Carousel.calls gone).trans (congrArg Carousel.calls rest :)
  | false =>
    rw [if_neg (ended ▸ Bool.false_ne_true : ¬ last = true)] at runs
    refine ⟨v, runs, (bay r).trans (if_pos rfl), fun q other => (bay q).trans (if_neg other),
      done.discs.trans (by rw [discs]), done.discOrder.trans (by rw [discOrder]), done.tasks.trans tasks,
      done.lanes.trans lanes, done.globals.trans globals, others, congrArg Carousel.phase rest, done.face.trans due,
      (congrArg Carousel.motion rest :), (congrArg Carousel.calls rest :), ports⟩

end Reviews

end Sys2Proof.Machine

/-! WITHDRAW (R115, R22): what taking tasks and promises away keeps, and what it leaves of the carousel. -/

namespace Sys2Proof.Machine

/-! ## Work that takes tasks away -/

/-- What work that takes tasks and promises away keeps: counts and disputes, configurations, motion records without a
choice to drop, and of the tasks those that stand where they stood. -/
structure Releases (s t : State) : Prop where
  bay : ∀ r, (t.bay r).count = (s.bay r).count ∧ (t.bay r).disputed = (s.bay r).disputed
  cfg : ∀ c, (t.carousel c).cfg = (s.carousel c).cfg
  motion : ∀ c, (s.motion c).state ≠ .waitPermit → t.motion c = s.motion c
  face : ∀ c, (s.carousel c).face = none → (t.carousel c).face = none
  phase : ∀ c, (s.carousel c).face = none → (s.carousel c).phase = none → (t.carousel c).phase = none
  task : ∀ i x, t.task i = some x → ∃ y, s.task i = some y ∧ x.bay = y.bay ∧ x.kind = y.kind ∧ (y.state = .queued → x.state = .queued)

namespace Releases

variable {s t u : State}

theorem refl (s : State) : Releases s s :=
  ⟨fun _ => ⟨rfl, rfl⟩, fun _ => rfl, fun _ _ => rfl, fun _ => id, fun _ _ => id, fun _ x h => ⟨x, h, rfl, rfl, id⟩⟩

theorem trans (a : Releases s t) (b : Releases t u) : Releases s u where
  bay r := ⟨(b.bay r).1.trans (a.bay r).1, (b.bay r).2.trans (a.bay r).2⟩
  cfg c := (b.cfg c).trans (a.cfg c)
  motion c away := by
    have first := a.motion c away
    exact (b.motion c (first ▸ away)).trans first
  face c none_ := b.face c (a.face c none_)
  phase c none_ off := b.phase c (a.face c none_) (a.phase c none_ off)
  task i x h := by
    obtain ⟨y, there, bay, kind, queued⟩ := b.task i x h
    obtain ⟨z, here, bay', kind', queued'⟩ := a.task i y there
    exact ⟨z, here, bay.trans bay', kind.trans kind', queued ∘ queued'⟩

end Releases

/-- What such work keeps of one carousel. -/
structure Carousel.Releases (x y : Carousel) : Prop where
  book : ∀ k b, (look (look y.carriers k).bays b).count = (look (look x.carriers k).bays b).count
    ∧ (look (look y.carriers k).bays b).disputed = (look (look x.carriers k).bays b).disputed
  cfg : y.cfg = x.cfg
  motion : x.motion.state ≠ .waitPermit → y.motion = x.motion
  face : x.face = none → y.face = none
  phase : x.face = none → x.phase = none → y.phase = none

theorem Carousel.Releases.refl (x : Carousel) : x.Releases x :=
  ⟨fun _ _ => ⟨rfl, rfl⟩, rfl, fun _ => rfl, id, fun _ => id⟩

theorem Turn.releases {x y : Carousel} (h : Turn .release x y) : x.Releases y := by
  cases h with
  | carriers new kept => exact ⟨fun k b => ((kept k).2 b).1 (by decide), rfl, fun _ => rfl, id, fun _ => id⟩
  | balance => exact ⟨fun _ _ => ⟨rfl, rfl⟩, rfl, fun _ => rfl, id, fun _ => id⟩
  | filters => exact ⟨fun _ _ => ⟨rfl, rfl⟩, rfl, fun _ => rfl, id, fun _ => id⟩
  | marks => exact ⟨fun _ _ => ⟨rfl, rfl⟩, rfl, fun _ => rfl, id, fun _ => id⟩
  | raises => exact ⟨fun _ _ => ⟨rfl, rfl⟩, rfl, fun _ => rfl, id, fun _ => id⟩
  | sweep => exact ⟨fun _ _ => ⟨rfl, rfl⟩, rfl, fun _ => rfl, id, fun _ => id⟩
  | face f => exact ⟨fun _ _ => ⟨rfl, rfl⟩, rfl, fun _ => rfl, fun e => by simp [e], fun _ => id⟩
  | phase new only =>
    refine ⟨fun _ _ => ⟨rfl, rfl⟩, rfl, fun _ => rfl, id, fun noFace off => ?_⟩
    by_contra runs
    exact (only runs).elim (fun e => e off) fun e => e noFace
  | motion m goes =>
    refine ⟨fun _ _ => ⟨rfl, rfl⟩, rfl, fun away => ?_, id, fun _ => id⟩
    cases goes with
    | drops waiting => exact absurd waiting away
    | waits duty => exact absurd rfl duty
    | rests duty => exact absurd rfl duty
    | _ any => cases any
  | presents duty => exact absurd rfl duty
  | _ any => cases any

theorem Upd.releases {s t : State} (h : Upd .release s t) : Releases s t := by
  have kept (tasks : t.tasks = s.tasks) (i : Ticket) (x : Task) (stands : t.task i = some x) :
      ∃ y, s.task i = some y ∧ x.bay = y.bay ∧ x.kind = y.kind ∧ (y.state = .queued → x.state = .queued) :=
    ⟨x, (congrArg (look · i) tasks).symm.trans stands, rfl, rfl, id⟩
  have still (carousels : t.carousels = s.carousels) (task : ∀ i x, t.task i = some x →
      ∃ y, s.task i = some y ∧ x.bay = y.bay ∧ x.kind = y.kind ∧ (y.state = .queued → x.state = .queued)) : Releases s t := by
    have carousel (c : CarouselId) : t.carousel c = s.carousel c := congrArg (look · c) carousels
    exact
      { bay := fun r => by rw [bay_eq, carousel]; exact ⟨rfl, rfl⟩
        cfg := fun c => by rw [carousel]
        motion := fun c _ => by rw [State.motion, carousel]; rfl
        face := fun c e => by rw [carousel]; exact e
        phase := fun c _ e => by rw [carousel]; exact e
        task := task }
  cases h with
  | elsewhere carousels tasks _ => exact still carousels (kept tasks)
  | turns turn tasks _ =>
    have turned (c : CarouselId) : (s.carousel c).Releases (t.carousel c) :=
      (turn c).elim (fun e => by rw [e]; exact .refl _) Turn.releases
    exact
      { bay := fun r => (turned r.carousel).book r.carrier r.bay
        cfg := fun c => (turned c).cfg
        motion := fun c => (turned c).motion
        face := fun c => (turned c).face
        phase := fun c => (turned c).phase
        task := kept tasks }
  | task j z fits carousels tasks _ =>
    refine still carousels fun i x stands => ?_
    have stands : look (put s.tasks j z) i = some x := (congrArg (look · i) tasks).symm.trans stands
    by_cases own : j = i
    · subst own
      rw [look_put_self] at stands
      subst stands
      cases fits with
      | cut y there queued n => exact ⟨y, there, rfl, rfl, id⟩
      | entombed y there presented => exact ⟨y, there, rfl, rfl, fun e => nomatch presented.symm.trans e⟩
      | queued duty => exact absurd rfl duty
      | presented duty => exact absurd rfl duty
    · rw [look_put_ne _ _ own] at stands
      exact ⟨x, stands, rfl, rfl, id⟩
  | moves duty => exact absurd rfl duty
  | closes duty => exact absurd rfl duty
  | globals any => cases any
  | restarts any => cases any
  | powersOn any => cases any

theorem Reaches.releases {s t : State} (h : Reaches .release s t) : Releases s t := by
  have chain := h.writes
  clear h
  induction chain with
  | refl => exact .refl s
  | tail _ w ih => exact ih.trans w.releases

/-! ## A withdrawn carousel has no task -/

section Withdrawal

variable {s t : State} {h : Header} {rt : ReplyTo} {c : CarouselId} {i : Ticket} {x : Task}

/-- A ticket without a task stays free. -/
theorem Releases.none (r : Releases s t) (free : s.task i = none) : t.task i = none := by
  cases stands : t.task i with
  | none => rfl
  | some x =>
    obtain ⟨y, there, _⟩ := r.task i x stands
    exact nomatch free.symm.trans there

theorem freeTask_task_none : (s.freeTask i).task i = none := by rw [freeTask_task]; exact if_pos rfl

theorem cutTask_whole_task : (s.cutTask i x x.count).task i = none := by
  have freed : ∀ f, ((s.changeBay x.bay f).freeTask i).task i = none := fun f => freeTask_task_none
  unfold State.cutTask
  dsimp only
  rw [if_pos (le_refl _)]
  split
  · exact freed _
  · next w _ =>
    exact ((((Reaches.refl .release _).modWork w _).afterReopen (by decide) w).releases).none (freed _)

/-- A QUEUED task that is withdrawn is gone. -/
theorem withdrawQueued_task (queued : ∀ x, s.task i = some x → x.state = .queued) : (s.withdrawQueued i).task i = none := by
  cases stands : s.task i with
  | none => rw [State.withdrawQueued, stands]; exact stands
  | some x =>
    have state := queued x stands
    cases kind : x.kind with
    | pick => simp only [State.withdrawQueued, stands, state, kind]; exact cutTask_whole_task
    | put => simp only [State.withdrawQueued, stands, state, kind]; exact freeTask_task_none

/-- Once every ticket of a list of QUEUED tasks was withdrawn, all of them are free. -/
theorem foldl_withdrawQueued (l : List Ticket) (queued : ∀ i ∈ l, ∀ x, s.task i = some x → x.state = .queued) :
    ∀ i ∈ l, (l.foldl State.withdrawQueued s).task i = none := by
  induction l generalizing s with
  | nil => nofun
  | cons a rest ih =>
    intro i mem
    have first : Releases s (s.withdrawQueued a) := ((Reaches.refl .release s).withdrawQueued (by decide) a).releases
    have later : Releases (s.withdrawQueued a) (rest.foldl State.withdrawQueued (s.withdrawQueued a)) :=
      (Reaches.foldl' _ (Reaches.refl .release _) fun u b _ => (Reaches.refl _ u).withdrawQueued (by decide) b).releases
    rcases List.mem_cons.mp mem with rfl | mem
    · exact later.none (withdrawQueued_task (queued i (List.mem_cons_self ..)))
    · refine ih (fun j m x stands => ?_) i mem
      obtain ⟨y, there, _, _, state⟩ := first.task j x stands
      exact state (queued j (List.mem_cons_of_mem _ m) y there)

theorem mem_ticketsOn {kind : TaskKind} :
    i ∈ s.ticketsOn c kind ↔ ∃ x, s.task i = some x ∧ x.kind = kind ∧ x.bay.carousel = c := by
  simp [State.ticketsOn, mem_allTasks]

/-- With every task of a carousel QUEUED, its withdrawal leaves none (R115 step 3). -/
theorem withdrawQueue_task (queued : s.noneAtFace c) (stands : (s.withdrawQueue c).task i = some x) : x.bay.carousel ≠ c := by
  intro on
  have picks : Releases s ((s.ticketsOn c .pick).foldl State.withdrawQueued s) :=
    (Reaches.foldl' _ (Reaches.refl .release _) fun u b _ => (Reaches.refl _ u).withdrawQueued (by decide) b).releases
  have noPick := foldl_withdrawQueued (s := s) (s.ticketsOn c .pick) fun j mem y there => by
    obtain ⟨z, here, _, on⟩ := mem_ticketsOn.mp mem
    obtain rfl := Option.some.inj (there.symm.trans here)
    exact queued j y there on
  unfold State.withdrawQueue at stands
  dsimp only at stands
  generalize (s.ticketsOn c .pick).foldl State.withdrawQueued s = v at *
  have queuedStill : v.noneAtFace c := fun j y there on => by
    obtain ⟨z, here, bay, _, state⟩ := picks.task j y there
    exact state (queued j z here (bay ▸ on))
  have puts : Releases v ((v.ticketsOn c .put).foldl State.withdrawQueued v) :=
    (Reaches.foldl' _ (Reaches.refl .release _) fun u b _ => (Reaches.refl _ u).withdrawQueued (by decide) b).releases
  have noPut := foldl_withdrawQueued (s := v) (v.ticketsOn c .put) fun j mem y there => by
    obtain ⟨z, here, _, on⟩ := mem_ticketsOn.mp mem
    obtain rfl := Option.some.inj (there.symm.trans here)
    exact queuedStill j y there on
  obtain ⟨y, there, bay, kind, _⟩ := puts.task i x stands
  obtain ⟨z, here, bay', kind', _⟩ := picks.task i y there
  cases of : y.kind with
  | pick => exact nomatch (noPick i (mem_ticketsOn.mpr ⟨z, here, kind' ▸ of, bay' ▸ bay ▸ on⟩)).symm.trans there
  | put => exact nomatch (noPut i (mem_ticketsOn.mpr ⟨y, there, of, bay ▸ on⟩)).symm.trans stands

/-! ## WITHDRAW (R115) -/

/-- STOP where the carousel turns (R115 step 1). -/
def State.stopTurning (s : State) (c : CarouselId) : State :=
  if (s.motion c).state = .moving ∨ (s.motion c).state = .stopping then s.post (drivePort c) .stop else s

theorem stopTurning_carousel (d : CarouselId) : (s.stopTurning c).carousel d = s.carousel d := by
  rw [State.stopTurning]; split <;> rfl
theorem stopTurning_tasks : (s.stopTurning c).tasks = s.tasks := by rw [State.stopTurning]; split <;> rfl
theorem stopTurning_due : (s.stopTurning c).due = s.due := by rw [State.stopTurning]; split <;> rfl

theorem withdrawMotion_stops :
    s.withdrawMotion c = ((s.stopTurning c).modMotion c Motion.withdrawn).returnPermit (s.motion c).state := rfl

/-- The motion record first: WITHDRAWN, with HOLD and the latch kept (R115 steps 1 and 5). -/
theorem withdrawMotion_carousel (d : CarouselId) :
    (s.withdrawMotion c).carousel d
      = if c = d then { s.carousel d with motion := (s.motion d).withdrawn } else s.carousel d := by
  rw [withdrawMotion_stops, returnPermit_carousel]
  refine (modCarousel_carousel ..).trans ?_
  rw [stopTurning_carousel, stopTurning_carousel]
  split
  · next own => rw [own]; rfl
  · rfl

theorem withdrawMotion_tasks : (s.withdrawMotion c).tasks = s.tasks := by
  rw [withdrawMotion_stops, returnPermit_tasks]; exact stopTurning_tasks

theorem withdrawMotion_arbiter :
    (s.withdrawMotion c).due.arbiter = (s.due.arbiter || (s.motion c).state.holdsPermit) := by
  rw [withdrawMotion_stops, returnPermit_due, modMotion_due, stopTurning_due]

/-- The face of a withdrawn carousel is empty, and every task of it QUEUED (R115 step 2). -/
theorem withdrawFace_clears (away : (s.carousel c).face = none → (s.carousel c).phase = none ∧ s.noneAtFace c) :
    ∃ u, Releases s u ∧ u.due.arbiter = s.due.arbiter ∧ u.noneAtFace c ∧ (u.carousel c).phase = none
      ∧ s.withdrawFace c = u.modCarousel c fun x => { x with face := none } := by
  cases face : (s.carousel c).face with
  | none =>
    obtain ⟨phase, none_⟩ := away face
    exact ⟨s, .refl s, rfl, none_, phase, by rw [withdrawFace_of_none face, modCarousel_id _ _ (by rw [← face])]⟩
  | some p =>
    have work := clearFace_reaches s c p
    obtain ⟨none_, phase⟩ := clearFace_cleared s c p
    exact ⟨_, work.releases, work.arbiter rfl, none_, phase, withdrawFace_of_some face⟩

/-- What a withdrawal leaves before its answer. -/
structure Withdrawn (s : State) (c : CarouselId) (y : State) : Prop where
  motion : y.motion c = (s.motion c).withdrawn
  calls : (y.carousel c).calls = []
  sweep : (y.carousel c).sweep = none
  face : (y.carousel c).face = none
  phase : (y.carousel c).phase = none
  cfg : (y.carousel c).cfg = (s.carousel c).cfg
  task : ∀ i x, y.task i = some x → x.bay.carousel ≠ c
  bay : ∀ r, (y.bay r).count = (s.bay r).count ∧ (y.bay r).disputed = (s.bay r).disputed
  arbiter : y.due.arbiter = (s.due.arbiter || (s.motion c).state.holdsPermit)

theorem withdrawCalls_carousel (d : CarouselId) :
    (s.withdrawCalls c).carousel d = if c = d then { s.carousel d with calls := [], sweep := none } else s.carousel d := by
  have dropped : (s.withdrawCalls c).carousel d
      = (s.modCarousel c fun x => { x with calls := [], sweep := none }).carousel d := by
    rw [State.withdrawCalls]; split <;> rfl
  rw [dropped, modCarousel_carousel]
  split
  · next own => rw [own]
  · rfl

theorem withdrawCalls_tasks : (s.withdrawCalls c).tasks = s.tasks := by
  rw [State.withdrawCalls]; split <;> rfl
theorem withdrawCalls_due : (s.withdrawCalls c).due = s.due := by
  rw [State.withdrawCalls]; split <;> rfl

theorem withdrawCalls_bay (r : BayRef) : (s.withdrawCalls c).bay r = s.bay r := by
  rw [bay_eq, withdrawCalls_carousel]
  split <;> rfl

/-- The work of a withdrawal, step by step. -/
theorem withdrawn_of (away : (s.carousel c).face = none → (s.carousel c).phase = none ∧ s.noneAtFace c) :
    Withdrawn s c ((((s.withdrawMotion c).withdrawFace c).withdrawQueue c).withdrawCalls c) := by
  have motion (d : CarouselId) := withdrawMotion_carousel (s := s) (c := c) d
  have tasks := withdrawMotion_tasks (s := s) (c := c)
  have permit := withdrawMotion_arbiter (s := s) (c := c)
  generalize s.withdrawMotion c = t at *
  have own := (motion c).trans (if_pos rfl)
  have book (r : BayRef) : t.bay r = s.bay r := by rw [bay_eq, motion]; split <;> rfl
  obtain ⟨u, faceWork, faceArbiter, none_, phase, emptied⟩ := withdrawFace_clears (s := t) (c := c) fun noFace => by
    rw [own] at noFace ⊢
    exact ⟨(away noFace).1, (noneAtFace_iff_tasks c tasks).mpr (away noFace).2⟩
  have faced (d : CarouselId) : (t.withdrawFace c).carousel d
      = if c = d then { u.carousel c with face := none } else u.carousel d := by
    rw [emptied]; exact modCarousel_carousel ..
  have faceTasks : (t.withdrawFace c).tasks = u.tasks := by rw [emptied]; rfl
  have faceDue : (t.withdrawFace c).due = u.due := by rw [emptied]; rfl
  generalize t.withdrawFace c = v at *
  have faceBook (r : BayRef) : v.bay r = u.bay r := by
    rw [bay_eq, faced]
    split
    · next own => rw [bay_eq, own]
    · rfl
  have queueReaches : Reaches .release v (v.withdrawQueue c) := (Reaches.refl .release v).withdrawQueue (by decide) c
  have queueWork := queueReaches.releases
  have taskless : ∀ i x, (v.withdrawQueue c).task i = some x → x.bay.carousel ≠ c := fun i x =>
    withdrawQueue_task ((noneAtFace_iff_tasks c faceTasks).mpr none_)
  have queueArbiter := queueReaches.arbiter rfl
  clear queueReaches
  generalize v.withdrawQueue c = w at *
  have vOwn := (faced c).trans (if_pos rfl)
  have wFace : (w.carousel c).face = none := queueWork.face c (by rw [vOwn])
  have wPhase : (w.carousel c).phase = none := queueWork.phase c (by rw [vOwn]) (by rw [vOwn]; exact phase)
  have uMotion : u.motion c = (s.motion c).withdrawn := by
    have tMotion : t.motion c = (s.motion c).withdrawn := congrArg Carousel.motion own
    exact (faceWork.motion c (by rw [tMotion]; exact nofun)).trans tMotion
  have vMotion : v.motion c = (s.motion c).withdrawn := (congrArg Carousel.motion vOwn).trans uMotion
  have wMotion : w.motion c = (s.motion c).withdrawn := (queueWork.motion c (by rw [vMotion]; exact nofun)).trans vMotion
  have wCfg : (w.carousel c).cfg = (s.carousel c).cfg := by
    rw [queueWork.cfg, vOwn]
    exact (faceWork.cfg c).trans (congrArg Carousel.cfg own :)
  have gone := (withdrawCalls_carousel (s := w) (c := c) c).trans (if_pos rfl)
  refine ⟨(congrArg Carousel.motion gone).trans wMotion, congrArg Carousel.calls gone, congrArg Carousel.sweep gone,
    (congrArg Carousel.face gone).trans wFace, (congrArg Carousel.phase gone).trans wPhase,
    (congrArg Carousel.cfg gone).trans wCfg, fun i x stands => ?_, fun r => ?_, ?_⟩
  · exact taskless i x ((congrArg (look · i) withdrawCalls_tasks).symm.trans stands)
  · rw [withdrawCalls_bay, (queueWork.bay r).1, (queueWork.bay r).2, faceBook, (faceWork.bay r).1, (faceWork.bay r).2, book]
    exact ⟨rfl, rfl⟩
  · rw [withdrawCalls_due, queueArbiter, faceDue, faceArbiter, permit]

theorem outOfService_mem (m : MotionState) : m.outOfService = true ↔ m ∈ [.offline, .withdrawn] := by cases m <;> decide

/-- Settles O49: the steps of R115 in order. -/
theorem withdrawLetsGoOfTheCarousel : Obligations.WithdrawLetsGoOfTheCarousel := by
  intro h c s ready stock i
  have admitted : Admitted s i h .withdraw _ := admitted_stock ready stock rfl (Nat.le_of_ble_eq_true rfl) rfl
  have read := parse_withdraw c
  refine ⟨fun out => ?_, fun enrolled away => ?_⟩
  · exact admitted.completes_of_take_refuse read rfl (if_pos ((outOfService_mem _).mpr out))
  · have runs := admitted.exec_eq_take read rfl
    rw [State.take, State.takeWithdraw, if_neg (mt (outOfService_mem ((s.accepted h.port).motion c).state).mp enrolled)] at runs
    have done := withdrawn_of (s := s.accepted h.port) away
    generalize (((((s.accepted h.port).withdrawMotion c).withdrawFace c).withdrawQueue c).withdrawCalls c) = v at *
    refine ⟨_, runs, done.motion, done.calls, done.sweep, done.face, done.phase, done.cfg, done.task, done.bay, rfl, ?_,
      respond_answers _ ⟨h.port, RequestCode.byte .withdraw, h.tag⟩ _ _⟩
    exact done.arbiter.trans (rest_holdsPermit _)

end Withdrawal

end Sys2Proof.Machine

/-! What cuts and trims leave (4.5), and DISC_ACK and RESOLVE (R146, R147). -/

namespace Sys2Proof.Machine

/-! ## Cuts and trims -/

/-- A state without its tasks, carousels, lanes and ports, and without what is due: what cuts and trims leave. -/
def State.archive (s : State) : State :=
  { s with tasks := Vector.replicate 256 none, carousels := State.reset.carousels, lanes := State.reset.lanes,
           ports := State.reset.ports, due := {} }

/-- `t` is `s` but for tasks, lanes, ports, what is due, and the book, balance, calls and motion records of carousels. -/
structure Cuts (s t : State) : Prop where
  archive : t.archive = s.archive
  carousel : ∀ c, t.carousel c = { s.carousel c with
    carriers := (t.carousel c).carriers, balance := (t.carousel c).balance, calls := (t.carousel c).calls,
    motion := t.motion c }

namespace Cuts

variable {s t u : State}

theorem refl (s : State) : Cuts s s := ⟨rfl, fun _ => rfl⟩

theorem trans (a : Cuts s t) (b : Cuts t u) : Cuts s u :=
  ⟨b.archive.trans a.archive, fun c => by rw [b.carousel, a.carousel]⟩

theorem discs (h : Cuts s t) : t.discs = s.discs := (congrArg State.discs h.archive :)
theorem discOrder (h : Cuts s t) : t.discOrder = s.discOrder := (congrArg State.discOrder h.archive :)
theorem globals (h : Cuts s t) : t.globals = s.globals := (congrArg State.globals h.archive :)
theorem stamp (h : Cuts s t) : t.stamp = s.stamp := (congrArg State.stamp h.archive :)
theorem cfg (h : Cuts s t) (c : CarouselId) : (t.carousel c).cfg = (s.carousel c).cfg := by rw [h.carousel]
theorem face (h : Cuts s t) (c : CarouselId) : (t.carousel c).face = (s.carousel c).face := by rw [h.carousel]
theorem phase (h : Cuts s t) (c : CarouselId) : (t.carousel c).phase = (s.carousel c).phase := by rw [h.carousel]

/-- A write outside the carousels. -/
theorem of_carousels (carousels : t.carousels = s.carousels) (archive : t.archive = s.archive) : Cuts s t :=
  ⟨archive, fun c => by rw [State.motion, show t.carousel c = s.carousel c from congrArg (look · c) carousels]⟩

theorem post (s : State) (p : PortId) (n : Notice) : Cuts s (s.post p n) := of_carousels rfl rfl
theorem postStation (s : State) (c : CarouselId) (n : Notice) : Cuts s (s.postStation c n) := by
  unfold State.postStation
  split
  · exact refl s
  · exact post ..
theorem setTask (s : State) (i : Ticket) (x : Option Task) : Cuts s (s.setTask i x) := of_carousels rfl rfl
theorem dueFace (s : State) : Cuts s s.dueFace := of_carousels rfl rfl
theorem duePass (s : State) : Cuts s s.duePass := of_carousels rfl rfl
theorem modLine (s : State) (l : LaneId) (i : Nat) (f : Line → Line) : Cuts s (s.modLine l i f) := of_carousels rfl rfl
theorem modWork (s : State) (w : PickWork) (f : Counters → Counters) : Cuts s (s.modWork w f) := of_carousels rfl rfl

theorem changeBay (s : State) (r : BayRef) (f : Bay → Bay) : Cuts s (s.changeBay r f) where
  archive := (congrArg State.archive (changeBay_inner s r f) :)
  carousel c := by
    rw [State.motion, changeBay_carousel]
    split
    · simp [Carousel.booked]
    · rfl

theorem freeTask (s : State) (i : Ticket) : Cuts s (s.freeTask i) := by
  have frees := Frees.freeTask s i
  exact ⟨(congrArg State.archive frees.fixed :), fun c => by rw [frees.carousel]⟩

theorem entomb (s : State) (i : Ticket) (x : Task) : Cuts s (s.entomb i x) :=
  (((changeBay s _ _).trans (setTask _ _ _)).trans (postStation _ _ _)).trans (dueFace _)

theorem takeAway (s : State) (i : Ticket) (x : Task) : Cuts s (s.takeAway i x) := by
  unfold State.takeAway
  split
  · exact (changeBay ..).trans (freeTask ..)
  · exact entomb ..
  · exact refl s

theorem foldl {α : Type} {f : State → α → State} (l : List α) (one : ∀ u a, Cuts u (f u a)) (s : State) : Cuts s (l.foldl f s) := by
  induction l generalizing s with
  | nil => exact refl s
  | cons a rest ih => exact (one s a).trans (ih _)

theorem afterReopen (s : State) (w : PickWork) : Cuts s (s.afterReopen w) := by
  unfold State.afterReopen
  split
  · exact duePass s
  · split
    · exact duePass s
    · split
      · exact ((foldl _ (fun u (q : Ticket × Task) => takeAway u q.1 q.2) s).trans (modLine ..)).trans (duePass _)
      · exact duePass s

theorem cutTask (s : State) (i : Ticket) (x : Task) (n : Nat) : Cuts s (s.cutTask i x n) := by
  have cut : Cuts s (if x.count ≤ n then (s.changeBay x.bay fun b => { b with reserved := b.reserved - n }).freeTask i
      else (s.changeBay x.bay fun b => { b with reserved := b.reserved - n }).setTask i
        (some { x with count := x.count - n })) := by
    split
    · exact (changeBay ..).trans (freeTask ..)
    · exact (changeBay ..).trans (setTask ..)
  unfold State.cutTask
  dsimp only
  generalize (if x.count ≤ n then _ else _ : State) = u at cut ⊢
  split
  · exact cut
  · exact (cut.trans (modWork ..)).trans (afterReopen ..)

theorem handBackPut (s : State) (i : Ticket) (x : Task) : Cuts s (s.handBackPut i x) :=
  ((changeBay ..).trans (freeTask ..)).trans (post ..)

end Cuts

/-- A cut of a task that stands QUEUED leaves counts, disputes and the audit unit's tables. -/
theorem cutExcess_cuts {r : BayRef} {counted : Nat} (fuel cut : Nat) (s : State) :
    Reaches .release s (State.cutExcess r counted fuel cut s).1 ∧ Cuts s (State.cutExcess r counted fuel cut s).1 := by
  induction fuel generalizing cut s with
  | zero => exact ⟨.refl .release s, .refl s⟩
  | succ fuel ih =>
    unfold State.cutExcess
    dsimp only
    split
    · exact ⟨.refl .release s, .refl s⟩
    · split
      · exact ⟨.refl .release s, .refl s⟩
      · next t x newest =>
        obtain ⟨stands, queued, _⟩ := mem_queuedOnBay.mp (best?_mem newest)
        obtain ⟨reaches, cuts⟩ := ih (cut + min ((s.bay r).reserved - counted) x.count)
          (s.cutTask t x (min ((s.bay r).reserved - counted) x.count))
        exact ⟨((Reaches.refl .release s).cutTask (by decide) stands queued _).trans reaches, (Cuts.cutTask ..).trans cuts⟩

theorem trimPuts_cuts {r : BayRef} {counted limit : Nat} (fuel trimmed : Nat) (s : State) :
    Reaches .release s (State.trimPuts r counted limit fuel trimmed s).1
      ∧ Cuts s (State.trimPuts r counted limit fuel trimmed s).1 := by
  induction fuel generalizing trimmed s with
  | zero => exact ⟨.refl .release s, .refl s⟩
  | succ fuel ih =>
    unfold State.trimPuts
    split
    · exact ⟨.refl .release s, .refl s⟩
    · split
      · exact ⟨.refl .release s, .refl s⟩
      · next t x newest =>
        obtain ⟨reaches, cuts⟩ := ih (trimmed + x.count) (s.handBackPut t x)
        exact ⟨((Reaches.refl .release s).handBackPut (by decide) t x).trans reaches, (Cuts.handBackPut ..).trans cuts⟩

section Adjusts

variable {s : State} {r : BayRef} {counted : Nat}

/-- What making a count the book's keeps, and the count it leaves (R142). -/
theorem adjustBook_book :
    Cuts s (s.adjustBook r counted).state
      ∧ (∀ q, ((s.adjustBook r counted).state.bay q).count = if q = r then counted else (s.bay q).count)
      ∧ ∀ q, ((s.adjustBook r counted).state.bay q).disputed = (s.bay q).disputed := by
  have book (q : BayRef) := changeBay_bay s r (fun b => { b with count := counted }) q
  have wrote : Cuts s (s.changeBay r fun b => { b with count := counted }) := .changeBay ..
  unfold State.adjustBook
  dsimp only
  generalize (s.changeBay r fun b => { b with count := counted }) = u at *
  obtain ⟨cutReaches, cutCuts⟩ := cutExcess_cuts (r := r) (counted := counted) (u.bay r).reserved 0 u
  generalize State.cutExcess r counted (u.bay r).reserved 0 u = v at *
  obtain ⟨trimReaches, trimCuts⟩ := trimPuts_cuts (r := r) (counted := counted) (limit := s.stackLimitOf r)
    (v.1.bay r).incoming 0 v.1
  have kept := (cutReaches.trans trimReaches).releases
  refine ⟨(wrote.trans cutCuts).trans trimCuts, fun q => ?_, fun q => ?_⟩
  · rw [(kept.bay q).1, book]
    by_cases own : q = r
    · rw [if_pos own, if_pos own, settleEmpty_count]
    · rw [if_neg own, if_neg own]
  · rw [(kept.bay q).2, book]
    by_cases own : q = r
    · rw [if_pos own, settleEmpty_disputed, own]
    · rw [if_neg own]

end Adjusts

/-! ## RESOLVE (R147) -/

section Resolve

variable {s u : State} {h : Header} {rt : ReplyTo} {i : EntryId} {x : DiscRecord} {r : BayRef}

/-- A decision closes its dispute: the mark goes, the record goes, and a pass is due (R147). -/
def State.closed (s : State) (i : EntryId) (r : BayRef) : State :=
  (((s.modBay r fun b => { b with disputed := false }).dueUnhold).removeRecord i).duePass

theorem closeDispute_eq : s.closeDispute rt i r = ((s.closed i r).releaseHolds).respond rt .done [] := rfl

/-- The state of O37 after a decision. -/
def State.resolved (u : State) (i : EntryId) (r : BayRef) (order : List EntryId) : State :=
  { (u.modBay r fun y => { y with disputed := false }).setDisc i .free with discOrder := order.filter fun j => j ≠ i }

theorem closed_inner (same : s.inner = u.inner) : (s.closed i r).inner = (u.resolved i r u.discOrder).inner := by
  have pushed (v : State) : (v.resolved i r v.discOrder).inner = v.inner.resolved i r v.inner.discOrder := rfl
  rw [pushed, ← same, ← pushed]; rfl

theorem closed_due : (s.closed i r).due = { s.due with unhold := true, select := true, pass := true } := rfl
theorem closed_port (q : PortId) : (s.closed i r).port q = s.port q := rfl
theorem closed_disc : (s.closed i r).disc i = .free := setDisc_disc_self ..
theorem closed_discOrder : (s.closed i r).discOrder = s.discOrder.filter fun j => j ≠ i := rfl

theorem closed_bay (q : BayRef) : (s.closed i r).bay q = if q = r then { s.bay q with disputed := false } else s.bay q := by
  have carousels : (s.closed i r).carousels = (s.modBay r fun b => { b with disputed := false }).carousels := rfl
  refine Eq.trans ?_ (modBay_bay s r (fun b => { b with disputed := false }) q)
  simp only [State.bay, State.carrier, State.carousel, carousels]

/-- What the state of a record says of RESOLVE before its decision is looked at. -/
theorem takeResolve_noSuch {d : Decision} (none_ : s.disc i = .free ∨ s.disc i = .reserved) :
    s.takeResolve rt i d = s.refuse rt .noSuch := by
  rcases none_ with e | e <;> simp only [State.takeResolve, e]

theorem takeResolve_adjusted {d : Decision} (record : s.disc i = .record x) (adjusted : x.state = .adjusted) :
    s.takeResolve rt i d = s.refuse rt .wrongState := by
  simp only [State.takeResolve, record]
  exact if_pos adjusted

section Opened

variable {lot : Lot} (record : s.disc i = .record x) (opened : x.state = .opened)
include record opened

/-- KEEP_BOOK is for an assigned bay, and leaves the book (R147). -/
theorem takeResolve_keepBook :
    s.takeResolve rt i .keepBook = if (s.bay x.bay).lot = none then s.refuse rt .wrongState
      else ((s.closed i x.bay).releaseHolds).respond rt .done [] := by
  simp only [State.takeResolve, record, opened, reduceCtorEq, if_false]
  cases (s.bay x.bay).lot <;> simp [closeDispute_eq]

/-- CLEAR is for an EMPTY bay, and leaves the book (R147). -/
theorem takeResolve_clear :
    s.takeResolve rt i .clear = if (s.bay x.bay).lot = none then ((s.closed i x.bay).releaseHolds).respond rt .done []
      else s.refuse rt .wrongState := by
  simp only [State.takeResolve, record, opened, reduceCtorEq, if_false]
  cases (s.bay x.bay).lot <;> simp [closeDispute_eq]

/-- ACCEPT_COUNT is for an assigned bay, and makes the count the book's, within the stack limit (R147). -/
theorem takeResolve_acceptCount :
    s.takeResolve rt i .acceptCount = if (s.bay x.bay).lot = none then s.refuse rt .wrongState
      else if x.counted > s.stackLimitOf x.bay then s.refuse rt .badRange
      else (((s.adjustBook x.bay x.counted).state.closed i x.bay).releaseHolds).respond rt .done [] := by
  simp only [State.takeResolve, record, opened, reduceCtorEq, if_false]
  cases (s.bay x.bay).lot <;> simp [closeDispute_eq]

/-- ASSIGN is for an EMPTY bay, and writes its lot and count, within the stack limit (R147). -/
theorem takeResolve_assign :
    s.takeResolve rt i (.assign lot) = if (s.bay x.bay).lot = none then
        (if x.counted > stackLimit (s.carousel x.bay.carousel).cfg.bayHeight lot.width then s.refuse rt .badRange
          else (((s.changeBay x.bay (assignedBay lot x.counted)).closed i x.bay).releaseHolds).respond rt .done [])
      else s.refuse rt .wrongState := by
  simp only [State.takeResolve, record, opened, reduceCtorEq, if_false]
  cases (s.bay x.bay).lot <;> simp [closeDispute_eq, State.stackLimitFor]

/-- A decision for the other kind of bay (R147). -/
theorem takeResolve_otherKind {d : Nat} (known : d ≤ 3)
    (other : d ≤ 1 ∧ (s.bay x.bay).lot = none ∨ 2 ≤ d ∧ (s.bay x.bay).lot ≠ none) :
    s.takeResolve rt i (decisionOf d lot) = s.refuse rt .wrongState := by
  rcases other with ⟨low, empty⟩ | ⟨high, assigned⟩
  · obtain rfl | rfl : d = 0 ∨ d = 1 := by omega
    · exact (takeResolve_keepBook record opened).trans (if_pos empty)
    · exact (takeResolve_acceptCount record opened).trans (if_pos empty)
  · obtain rfl | rfl : d = 2 ∨ d = 3 := by omega
    · exact (takeResolve_assign record opened).trans (if_neg assigned)
    · exact (takeResolve_clear record opened).trans (if_neg assigned)

/-- KEEP_BOOK and CLEAR for their own kind of bay (R147). -/
theorem takeResolve_keeps {d : Nat} (keeps : d = 0 ∧ (s.bay x.bay).lot ≠ none ∨ d = 3 ∧ (s.bay x.bay).lot = none) :
    s.takeResolve rt i (decisionOf d lot) = ((s.closed i x.bay).releaseHolds).respond rt .done [] := by
  rcases keeps with ⟨rfl, assigned⟩ | ⟨rfl, empty⟩
  · exact (takeResolve_keepBook record opened).trans (if_neg assigned)
  · exact (takeResolve_clear record opened).trans (if_pos empty)

end Opened

/-! ## DISC_ACK (R146) -/

theorem takeDiscAck_noSuch (none_ : s.disc i = .free ∨ s.disc i = .reserved) : s.takeDiscAck rt i = s.refuse rt .noSuch := by
  rcases none_ with e | e <;> simp only [State.takeDiscAck, e]

theorem takeDiscAck_opened (record : s.disc i = .record x) (opened : x.state = .opened) :
    s.takeDiscAck rt i = s.refuse rt .wrongState := by
  simp only [State.takeDiscAck, record]; exact if_pos opened

theorem takeDiscAck_adjusted (record : s.disc i = .record x) (adjusted : x.state = .adjusted) :
    s.takeDiscAck rt i = (s.removeRecord i).respond rt .done [] := by
  simp only [State.takeDiscAck, record]; exact if_neg (by rw [adjusted]; decide)

/-- Settles O37: what is acknowledged goes, and what is resolved is written as its decision says. -/
theorem recordsAreAcknowledgedAndResolved : Obligations.RecordsAreAcknowledgedAndResolved := by
  refine ⟨?ack, ?resolve, ?form⟩
  case ack =>
    intro h id s ready stock i
    have admitted : Admitted s i h .discAck _ := admitted_stock ready stock rfl (Nat.le_of_ble_eq_true rfl) rfl
    have read := parse_discAck id
    refine ⟨fun none_ => ?_, fun x record => ⟨fun opened => ?_, fun adjusted => ?_⟩⟩
    · exact admitted.completes_of_take_refuse read rfl (takeDiscAck_noSuch (s := s.accepted h.port) none_)
    · exact admitted.completes_of_take_refuse read rfl (takeDiscAck_opened (s := s.accepted h.port) record opened)
    · exact admitted.completesThen_of_take_respond _ read rfl (takeDiscAck_adjusted (s := s.accepted h.port) record adjusted)
        rfl rfl fun _ => rfl
  case form =>
    intro h id d article week mass width s ready stock byte outside
    have admitted : Admitted s (.resolve h (byteOf id.val) (byteOf d) article week mass width) h .resolve _ :=
      admitted_stock ready stock rfl (Nat.le_of_ble_eq_true rfl) rfl
    refine admitted.completes_badForm ?_
    rw [parse_resolve, decision?_outside byte outside]; rfl
  case resolve =>
    intro h id d article week mass width s ready stock known domain i
    have admitted : Admitted s i h .resolve _ := admitted_stock ready stock rfl (Nat.le_of_ble_eq_true rfl) rfl
    have read : parseRequest .resolve ([byteOf id.val, byteOf d] ++ field 3 article ++ field 2 week ++ field 2 mass ++ field 2 width)
        = some (.resolve id (decisionOf d ⟨article.toNat, week.toNat, mass.toNat, width.toNat⟩)) := by
      rw [parse_resolve, decision?_of known domain]; rfl
    have runs := admitted.exec_eq_take read rfl
    refine ⟨fun none_ => ?_, fun x record => ?_⟩
    · exact admitted.completes_of_take_refuse read rfl (takeResolve_noSuch (s := s.accepted h.port) none_)
    intro b f ended answered
    refine ⟨fun adjusted => ?_, fun opened other => ?_, fun opened keeps => ?_, fun opened one assigned above => ?_,
      fun opened one assigned fits => ?_, fun opened two empty above => ?_, fun opened two empty fits => ?_⟩
    · exact admitted.completes_of_take_refuse read rfl (takeResolve_adjusted (s := s.accepted h.port) record adjusted)
    · exact admitted.completes_of_take_refuse read rfl
        (takeResolve_otherKind (s := s.accepted h.port) record opened known other)
    · rw [State.take, takeResolve_keeps (s := s.accepted h.port) record opened keeps] at runs
      exact ⟨_, runs, closed_inner (accepted_inner ..), rfl, fun q => accepted_port ..⟩
    · subst one
      exact admitted.completes_of_take_refuse read rfl
        (((takeResolve_acceptCount (s := s.accepted h.port) record opened).trans (if_neg assigned)).trans (if_pos above))
    · subst one
      have takes := ((takeResolve_acceptCount (s := s.accepted h.port) (rt := ⟨h.port, RequestCode.byte .resolve, h.tag⟩)
        record opened).trans (if_neg assigned)).trans (if_neg (not_lt.mpr fits))
      rw [State.take, show decisionOf 1 ⟨article.toNat, week.toNat, mass.toNat, width.toNat⟩ = .acceptCount from rfl,
        takes] at runs
      obtain ⟨cuts, counts, _⟩ := adjustBook_book (s := s.accepted h.port) (r := x.bay) (counted := x.counted)
      generalize ((s.accepted h.port).adjustBook x.bay x.counted).state = v at *
      refine ⟨v.closed id x.bay, runs, ?_, ?_, closed_disc, ?_, rfl⟩
      · rw [closed_bay, if_pos rfl]
        exact (counts x.bay).trans (if_pos rfl)
      · rw [closed_bay, if_pos rfl]
      · rw [closed_discOrder, cuts.discOrder]; rfl
    · subst two
      exact admitted.completes_of_take_refuse read rfl
        (((takeResolve_assign (s := s.accepted h.port) record opened).trans (if_pos empty)).trans (if_pos above))
    · subst two
      have takes := ((takeResolve_assign (lot := ⟨article.toNat, week.toNat, mass.toNat, width.toNat⟩)
        (s := s.accepted h.port) (rt := ⟨h.port, RequestCode.byte .resolve, h.tag⟩) record opened).trans
          (if_pos empty)).trans (if_neg (not_lt.mpr fits))
      rw [State.take, show decisionOf 2 ⟨article.toNat, week.toNat, mass.toNat, width.toNat⟩
        = .assign ⟨article.toNat, week.toNat, mass.toNat, width.toNat⟩ from rfl, takes] at runs
      have inner := changeBay_inner (s.accepted h.port) x.bay f
      refine ⟨_, runs, ?_, ?_, fun q => ?_⟩
      · exact closed_inner (inner.trans (modCarousel_inner_of (accepted_inner ..) _))
      · rw [closed_due, changeBay_due, accepted_due]
      · rw [closed_port, changeBay_port, accepted_port]; rfl

end Resolve

end Sys2Proof.Machine

/-! PICK_CONFIRM: the picked tyres, a short pick, and a set released whole (R70, R91, R92). -/

namespace Sys2Proof.Machine

section Picks

variable {s : State} {h : Header} {rt : ReplyTo} {t : Ticket} {x : Task} {w : PickWork} {k : Nat} {l : LaneId} {i j : Nat}
  {line : Line} {r : SetRecord}

/-! ## Lines once more (R58) -/

/-- A change of a line depends on the line it finds alone. -/
theorem modLine_congr {f g : Line → Line} (here : s.line? l i = some line) (same : f line = g line) :
    s.modLine l i f = s.modLine l i g := by
  have lines : (s.lane l).modLines (fun ls => ls.modify i f) = (s.lane l).modLines fun ls => ls.modify i g := by
    cases order : (s.lane l).order with
    | none => simp [Lane.modLines, order]
    | some o =>
      have at_ : o.lines[i]? = some line := by simpa [State.line?, Lane.lines, order] using here
      simp only [Lane.modLines, order, Option.map_some]
      congr 3
      refine List.ext_getElem? fun n => ?_
      simp only [List.getElem?_modify]
      split
      · next own => rw [← own, at_]; simp [same]
      · rfl
  rw [State.modLine, State.modLine, State.modLane, State.modLane, lines]

theorem modLine_modLine (f g : Line → Line) : (s.modLine l i f).modLine l i g = s.modLine l i (g ∘ f) := by
  have lane : ((s.lane l).modLines fun ls => ls.modify i f).modLines (fun ls => ls.modify i g)
      = (s.lane l).modLines fun ls => ls.modify i (g ∘ f) := by
    cases order : (s.lane l).order <;> simp [Lane.modLines, order, List.modify_modify_eq]
  simp only [State.modLine, State.modLane, State.lane, look_put_self, put_put]
  exact congrArg (fun y => { s with lanes := put s.lanes l y }) lane

theorem Line.setSize_modTyres (set : Option Nat) (f : Counters → Counters) (y : Line) : (y.modTyres set f).setSize = y.setSize := by
  obtain ⟨_, _, _, _, _, body⟩ := y
  cases body <;> cases set <;> rfl

/-- A set that is written anew does not keep what its counters were. -/
theorem Line.modSet_modTyres {y : Line} (set : y.sets[j]? = some r) (g : SetRecord) (f : Counters → Counters) :
    (y.modTyres (some j) f).modSet j (fun _ => g) = y.modSet j fun _ => g := by
  obtain ⟨_, _, _, _, _, body⟩ := y
  cases body with
  | unmatched => cases set
  | matched sets =>
    simp only [Line.modTyres, Line.modSet, List.modify_modify_eq]
    rfl

theorem bind_sets_modTyres (here : s.line? l i = some line) (set : line.sets[j]? = some r) (f : Counters → Counters) :
    (((s.modLine l i (Line.modTyres (some j) f)).line? l i).bind fun y => y.sets[j]?) = some { r with tyres := f r.tyres } := by
  rw [line?_modLine, here, Option.map_some, Option.bind_some, sets_modTyres, set]; rfl

/-! ## The confirmed tyres (R91) -/

/-- The counters of a task's work move, the task is freed, and the test of the face is due. -/
def State.workedOff (s : State) (t : Ticket) (w : PickWork) (f : Counters → Counters) : State :=
  (((s.modWork w f).setTask t none).dueFreed).dueFace

section WorkedOff

variable (f : Counters → Counters)

theorem workedOff_inner : (s.workedOff t w f).inner = (s.inner.modWork w f).setTask t none := rfl
theorem workedOff_port (q : PortId) : (s.workedOff t w f).port q = s.port q := rfl
theorem workedOff_carousel (c : CarouselId) : (s.workedOff t w f).carousel c = s.carousel c := rfl
theorem workedOff_due : (s.workedOff t w f).due = { s.due with face := true, freed := true } := rfl
theorem workedOff_lane (m : LaneId) : (s.workedOff t w f).lane m = (s.modWork w f).lane m := rfl

theorem workedOff_task (u : Ticket) : (s.workedOff t w f).task u = if u = t then none else s.task u := by
  have tasks : (s.workedOff t w f).task u = (s.setTask t none).task u := rfl
  rw [tasks]
  by_cases own : u = t
  · rw [if_pos own, own, setTask_task_self]
  · rw [if_neg own, setTask_task_ne _ _ (Ne.symm own)]

end WorkedOff

/-- The state after the confirmed tyres are moved: the bay changed, the work done. -/
def State.picked (s : State) (t : Ticket) (x : Task) (w : PickWork) (k : Nat) : State :=
  (s.changeBay x.bay (pickedBay k x.count)).workedOff t w (Counters.pick k x.count)

theorem takePickConfirm_taken (stands : s.task t = some x) (own : s.stationSends rt.port x.bay.carousel = true)
    (presented : x.state = .presented) (pick : x.kind = .pick) (fits : k ≤ x.count) :
    s.takePickConfirm rt t k = ((s.confirmPick t x k).releaseHolds).respond rt .done [] := by
  simp [State.takePickConfirm, stands, own, presented, pick, not_lt.mpr fits]

theorem confirmPick_eq (one : s.oneCallPerCarrier) (stands : s.task t = some x) (work : x.work = some w)
    (presents : (s.carousel x.bay.carousel).presents x.bay.carrier = true) :
    s.confirmPick t x k = if k < x.count then (((s.picked t x w k).afterReopen w).joinShortPick x.bay).duePass
      else s.picked t x w k := by
  have freed : ((s.changeBay x.bay (pickedBay k x.count)).modWork w (Counters.pick k x.count)).freeTask t
      = (((s.changeBay x.bay (pickedBay k x.count)).modWork w (Counters.pick k x.count)).setTask t none).dueFreed := by
    refine freeTask_presented _ t x ((changeBay_task ..).trans stands) ?_
    obtain ⟨_, _, calls, _⟩ := changeBay_rest s x.bay (pickedBay k x.count) x.bay.carousel
    change ((s.changeBay x.bay (pickedBay k x.count)).carousel x.bay.carousel).callFor x.bay.carrier = none
    rw [Carousel.callFor, calls]
    exact callFor_of_presents one presents
  simp only [State.confirmPick, work, freed, State.shortPick]
  rfl

theorem picked_inner :
    (s.picked t x w k).inner
      = ((s.booked x.bay (pickedBay k x.count)).modWork w (Counters.pick k x.count)).inner.setTask t none := by
  rw [State.picked, workedOff_inner, changeBay_inner]; rfl

theorem picked_due :
    (s.picked t x w k).due = { (s.changeBay x.bay (pickedBay k x.count)).due with face := true, freed := true } :=
  workedOff_due _

theorem picked_port (q : PortId) :
    (s.picked t x w k).port q = postsTo (s.bookPosts x.bay (pickedBay k x.count)) q (s.port q) := by
  rw [State.picked, workedOff_port, changeBay_port]

theorem picked_task (u : Ticket) : (s.picked t x w k).task u = if u = t then none else s.task u := by
  rw [State.picked, workedOff_task, changeBay_task]

theorem picked_carousel (c : CarouselId) :
    (s.picked t x w k).carousel c = (s.changeBay x.bay (pickedBay k x.count)).carousel c := workedOff_carousel _ c

/-- A change of the work of a lane looks at the lanes alone. -/
theorem modWork_lane_congr {v : State} (same : v.lanes = s.lanes) (f : Counters → Counters) (m : LaneId) :
    (v.modWork w f).lane m = (s.modWork w f).lane m := by
  simp only [State.modWork, State.modLine, State.modLane, State.lane, same]

theorem picked_lane (m : LaneId) : (s.picked t x w k).lane m = (s.modWork w (Counters.pick k x.count)).lane m := by
  rw [State.picked, workedOff_lane]
  exact modWork_lane_congr (changeBay_lanes ..) _ m

theorem picked_line? (n : Nat) : (s.picked t x w k).line? l n = (s.modWork w (Counters.pick k x.count)).line? l n := by
  rw [State.line?, picked_lane]; rfl

/-- The counters of the set the task worked for, once its tyres are confirmed. -/
theorem picked_sets (here : s.line? w.lane w.line = some line) (set : w.set = some j) (inSet : line.sets[j]? = some r) :
    (((s.picked t x w k).line? w.lane w.line).bind fun y => y.sets[j]?)
      = some { r with tyres := Counters.pick k x.count r.tyres } := by
  rw [picked_line?, State.modWork, set, bind_sets_modTyres here inSet]

/-! ## A short pick (R92) -/

/-- The set keeps its week and its other tasks, or the line is unmatched: only the pass is due (R70). -/
theorem afterReopen_stays (stays : ∀ j, w.set = some j → ∃ r, ((s.line? w.lane w.line).bind fun y => y.sets[j]?) = some r
    ∧ 0 < r.tyres.transit + r.tyres.arrived) : s.afterReopen w = s.duePass := by
  rw [State.afterReopen]
  cases set : w.set with
  | none => rfl
  | some j =>
    obtain ⟨r, here, held⟩ := stays j set
    simp only [here]
    exact if_neg (by omega)

theorem afterReopen_releases (set : w.set = some j) (here : ((s.line? w.lane w.line).bind fun y => y.sets[j]?) = some r)
    (none_ : r.tyres.transit = 0 ∧ r.tyres.arrived = 0) :
    s.afterReopen w = (s.releaseSet w.lane w.line j).duePass := by
  simp only [State.afterReopen, set, here]
  exact if_pos none_

/-- The bay of a short pick joins the pending audit of the presentation. -/
theorem joinShortPick_eq {b : BayRef} {p : Presentation} (face : (s.carousel b.carousel).face = some p) :
    s.joinShortPick b = (s.modCarousel b.carousel fun c => { c with face := some { p with
      pendingAudit := mergeScope p.pendingAudit (Scope.single b.bay .shortPick s.globals.shortPickMode) } }).dueFace := by
  exact congrArg State.dueFace (modCarousel_congr _ _ (by rw [face]; rfl))

end Picks

end Sys2Proof.Machine

/-! PICK_CONFIRM as a whole (R70, R91, R92). -/

namespace Sys2Proof.Machine

section ShortPicks

variable {s : State} {h : Header} {rt : ReplyTo} {t : Ticket} {x : Task} {w : PickWork} {k : Nat} {l : LaneId} {i j : Nat}
  {line : Line} {r : SetRecord} {b : BayRef} {p : Presentation}

/-! ## The end of a short pick, where the set is released (R70, R92) -/

/-- The scope that a short pick on a bay raises (R92). -/
def State.shortPickScope (s : State) (b : BayRef) : Scope := Scope.single b.bay .shortPick s.globals.shortPickMode

/-- A line changes, and the bay of the short pick joins the pending audit. -/
def State.closeShort (s : State) (b : BayRef) (l : LaneId) (i : Nat) (f : Line → Line) : State :=
  ((s.modLine l i f).duePass.joinShortPick b).duePass

section CloseShort

variable (f : Line → Line)

theorem closeShort_task (u : Ticket) : (s.closeShort b l i f).task u = s.task u := rfl
theorem closeShort_lane (m : LaneId) : (s.closeShort b l i f).lane m = (s.modLine l i f).lane m := rfl
theorem closeShort_discs : (s.closeShort b l i f).discs = s.discs := rfl
theorem closeShort_globals : (s.closeShort b l i f).globals = s.globals := rfl
theorem closeShort_stamp : (s.closeShort b l i f).stamp = s.stamp := rfl
theorem closeShort_port (q : PortId) : (s.closeShort b l i f).port q = s.port q := rfl
theorem closeShort_due : (s.closeShort b l i f).due = { s.due with pass := true, face := true } := rfl

theorem closeShort_carousel (c : CarouselId) :
    (s.closeShort b l i f).carousel c = { s.carousel c with face := ((s.closeShort b l i f).carousel c).face } := by
  have carousels : (s.closeShort b l i f).carousel c = ((s.modLine l i f).modFace b.carousel fun p =>
      { p with pendingAudit := mergeScope p.pendingAudit (s.shortPickScope b) }).carousel c := rfl
  rw [carousels, State.modFace, modCarousel_carousel]
  split
  · next own => subst own; rfl
  · rfl

theorem closeShort_face (face : (s.carousel b.carousel).face = some p) :
    ((s.closeShort b l i f).carousel b.carousel).face = some { p with pendingAudit := mergeScope p.pendingAudit (s.shortPickScope b) } := by
  have carousels : (s.closeShort b l i f).carousel b.carousel = ((s.modLine l i f).modFace b.carousel fun p =>
      { p with pendingAudit := mergeScope p.pendingAudit (s.shortPickScope b) }).carousel b.carousel := rfl
  rw [carousels, State.modFace, modCarousel_carousel_self]
  show ((s.carousel b.carousel).face).map _ = _
  rw [face]; rfl

theorem closeShort_carrier (c : CarouselId) (n : CarrierId) : (s.closeShort b l i f).carrier c n = s.carrier c n := by
  rw [State.carrier, closeShort_carousel]; rfl

theorem closeShort_bay (q : BayRef) : (s.closeShort b l i f).bay q = s.bay q := by rw [State.bay, closeShort_carrier]; rfl

end CloseShort

/-! ## The tasks of one set -/

/-- The task works for set j of line i. -/
def PickWork.ofSet (i j : Nat) (v : PickWork) : Bool := v.line = i && v.set = some j

theorem releaseSet_eq : s.releaseSet l i j = (s.takeAll (s.pickTasks l (PickWork.ofSet i j))).modLine l i fun y =>
    y.modSet j fun _ => { week := none, tyres := ⟨y.setSize, 0, 0, 0⟩ } := rfl

theorem worksFor_ofSet {z : Task} : z.worksFor l (PickWork.ofSet i j) = true
    ↔ (z.work.map fun v => (v.lane, v.line, v.set)) = some (l, i, some j) := by
  cases e : z.work <;> simp [Task.worksFor, PickWork.ofSet, e]

/-- The tyres of the tickets together, where one ticket gives a more. -/
theorem sum_tickets_add {f g : Ticket → Nat} {a : Nat} (own : f t = a + g t) (others : ∀ u, u ≠ t → f u = g u) :
    ((List.finRange 256).map f).sum = a + ((List.finRange 256).map g).sum := by
  have split : f = fun u => (if u = t then a else 0) + g u := by
    funext u
    by_cases e : u = t
    · subst e; simp [own]
    · simp [e, others u e]
  rw [← Fin.sum_univ_def, ← Fin.sum_univ_def, split, Finset.sum_add_distrib, Finset.sum_ite_eq' Finset.univ t,
    if_pos (Finset.mem_univ t)]

theorem sum_tickets_split {f g : Ticket → Nat} (own : g t = 0) (others : ∀ u, u ≠ t → f u = g u) :
    ((List.finRange 256).map f).sum = f t + ((List.finRange 256).map g).sum :=
  sum_tickets_add (by rw [own, Nat.add_zero]) others

theorem shareOf_eq_zero {ts : List (Ticket × Task)} {q : BayRef} (out : q ∉ ts.map fun p => p.2.bay) : shareOf ts q = 0 := by
  refine List.sum_eq_zero fun n mem => ?_
  obtain ⟨p, inside, rfl⟩ := List.mem_map.mp mem
  exact if_neg fun e => out (List.mem_map.mpr ⟨p, inside, e⟩)

/-! ## Nothing picked: the bay gives back the task's tyres alone -/

theorem pickedBay_zero (m : Nat) : pickedBay 0 m = fun b => { b with reserved := b.reserved - m } := rfl

theorem weightless_pickedBay (m : Nat) : Weightless (pickedBay 0 m) := weightless_reserved _

theorem picked_bay_zero (q : BayRef) :
    (s.picked t x w 0).bay q = if q = x.bay then (s.bay q).unreserve x.count else s.bay q := by
  rw [bay_eq, picked_carousel, ← bay_eq, changeBay_bay, pickedBay_zero]
  split
  · next own => subst own; rfl
  · rfl

theorem picked_carousel_zero (c : CarouselId) :
    (s.picked t x w 0).carousel c = { s.carousel c with carriers := ((s.picked t x w 0).carousel c).carriers } := by
  rw [picked_carousel, changeBay_carousel_of_weightless (weightless_pickedBay _)]

theorem picked_payload_zero (c : CarouselId) (n : CarrierId) :
    ((s.picked t x w 0).carrier c n).payload = (s.carrier c n).payload := by
  rw [State.carrier, picked_carousel]
  exact changeBay_payload_of_weightless (weightless_pickedBay _) n

theorem picked_port_zero (q : PortId) : (s.picked t x w 0).port q = s.port q := by
  rw [picked_port, bookPosts_of_weightless (weightless_pickedBay _), postsTo_nil]

theorem picked_fixed : (s.picked t x w k).discs = s.discs ∧ (s.picked t x w k).globals = s.globals
    ∧ (s.picked t x w k).stamp = s.stamp := by
  have kept (v : State) (f : Counters → Counters) : (v.workedOff t w f).discs = v.discs ∧ (v.workedOff t w f).globals = v.globals
      ∧ (v.workedOff t w f).stamp = v.stamp := ⟨rfl, rfl, rfl⟩
  obtain ⟨discs, globals, stamp⟩ := kept (s.changeBay x.bay (pickedBay k x.count)) (Counters.pick k x.count)
  exact ⟨discs.trans (changeBay_discs ..), globals.trans (changeBay_globals ..), stamp.trans (changeBay_stamp ..)⟩

theorem picked_cfg_zero (c : CarouselId) : ((s.picked t x w 0).carousel c).cfg = (s.carousel c).cfg := by
  rw [picked_carousel_zero]

namespace TakesAway

variable {v : State} {ts : List (Ticket × Task)} (taken : TakesAway ts s v)
include taken

theorem discs : v.discs = s.discs := (congrArg State.discs taken.fixed :)
theorem globals : v.globals = s.globals := (congrArg State.globals taken.fixed :)
theorem stamp : v.stamp = s.stamp := (congrArg State.stamp taken.fixed :)
theorem face (c : CarouselId) : (v.carousel c).face = (s.carousel c).face := by rw [taken.carousel]
theorem pass : v.due.pass = s.due.pass := by rw [taken.due]
theorem faceDue (due : s.due.face = true) : v.due.face = true := by rw [taken.due]; simp [due]
theorem freed (due : s.due.freed = true) : v.due.freed = true := by rw [taken.due]; simp [due]

end TakesAway

/-! ## A set released whole by a short pick of nothing -/

/-- The state after a short pick of nothing whose set is released. -/
def State.pickReleased (s : State) (t : Ticket) (x : Task) (w : PickWork) (j : Nat) : State :=
  ((s.picked t x w 0).takeAll ((s.picked t x w 0).pickTasks w.lane (PickWork.ofSet w.line j))).closeShort x.bay w.lane w.line
    fun y => y.modSet j fun _ => { week := none, tyres := ⟨y.setSize, 0, 0, 0⟩ }

theorem confirmPick_releases (one : s.oneCallPerCarrier) (stands : s.task t = some x) (work : x.work = some w)
    (presents : (s.carousel x.bay.carousel).presents x.bay.carrier = true) (some_ : 0 < x.count) (set : w.set = some j)
    (here : s.line? w.lane w.line = some line) (inSet : line.sets[j]? = some r)
    (none_ : r.tyres.transit = 0 ∧ r.tyres.arrived = 0) : s.confirmPick t x 0 = s.pickReleased t x w j := by
  have sets := picked_sets (s := s) (t := t) (x := x) (k := 0) here set inSet
  rw [confirmPick_eq one stands work presents, if_pos some_, afterReopen_releases set sets none_, releaseSet_eq]
  rfl

theorem pickReleased_lane (set : w.set = some j) (here : s.line? w.lane w.line = some line) (inSet : line.sets[j]? = some r)
    (m : LaneId) :
    (s.pickReleased t x w j).lane m
      = (s.modLine w.lane w.line fun y => y.modSet j fun _ => { week := none, tyres := ⟨line.setSize, 0, 0, 0⟩ }).lane m := by
  have lanes (v : State) (f : Line → Line) (same : v.lane = (s.modWork w (Counters.pick 0 x.count)).lane) :
      (v.modLine w.lane w.line f).lane m = ((s.modWork w (Counters.pick 0 x.count)).modLine w.lane w.line f).lane m := by
    by_cases own : m = w.lane
    · subst own; rw [State.modLine, State.modLine, modLane_lane_self, modLane_lane_self, same]
    · rw [State.modLine, State.modLine, modLane_lane_ne _ _ (Ne.symm own), modLane_lane_ne _ _ (Ne.symm own), same]
  rw [State.pickReleased, closeShort_lane, lanes _ _ (funext fun n => (takeAll_lane _ n).trans (picked_lane n)), State.modWork, set,
    modLine_modLine, modLine_congr here]
  have size := line.setSize_modTyres (some j) (Counters.pick 0 x.count)
  simp only [Function.comp_apply, size]
  exact Line.modSet_modTyres inSet _ _

section Released

variable (stands : s.task t = some x) (mine : x.worksFor w.lane (PickWork.ofSet w.line j) = true)
  (live : ∀ u z, s.task u = some z → z.worksFor w.lane (PickWork.ofSet w.line j) = true → z.kind = .pick ∧ z.state ≠ .cancelled)
include live

theorem picked_takesAway :
    TakesAway ((s.picked t x w 0).pickTasks w.lane (PickWork.ofSet w.line j)) (s.picked t x w 0)
      ((s.picked t x w 0).takeAll ((s.picked t x w 0).pickTasks w.lane (PickWork.ofSet w.line j))) := by
  refine pickTasks_takesAway fun u z here => ?_
  rw [picked_task] at here
  split at here
  · cases here
  · exact live u z here

theorem pickReleased_task (u : Ticket) :
    (s.pickReleased t x w j).task u = if u = t then none else
      (s.task u).bind fun z => if z.worksFor w.lane (PickWork.ofSet w.line j) = true then z.takenAway else some z := by
  rw [State.pickReleased, closeShort_task, takeAll_pickTasks_task ?live, picked_task]
  case live =>
    intro v z here own
    rw [picked_task] at here
    split at here
    · cases here
    · exact (live v z here own).2
  split <;> rfl

theorem pickReleased_carousel (c : CarouselId) :
    ((s.pickReleased t x w j).carousel c).balance = (s.carousel c).balance
      ∧ ((s.pickReleased t x w j).carousel c).cfg = (s.carousel c).cfg := by
  rw [State.pickReleased, closeShort_carousel, (picked_takesAway (t := t) (x := x) live).carousel, picked_carousel_zero]
  exact ⟨rfl, rfl⟩

theorem pickReleased_payload (c : CarouselId) (n : CarrierId) :
    ((s.pickReleased t x w j).carrier c n).payload = (s.carrier c n).payload := by
  rw [State.pickReleased, closeShort_carrier, (picked_takesAway (t := t) (x := x) live).payload, picked_payload_zero]

theorem pickReleased_fixed : (s.pickReleased t x w j).discs = s.discs ∧ (s.pickReleased t x w j).globals = s.globals
    ∧ (s.pickReleased t x w j).stamp = s.stamp := by
  have taken := picked_takesAway (t := t) (x := x) live
  obtain ⟨discs, globals, stamp⟩ := picked_fixed (s := s) (t := t) (x := x) (w := w) (k := 0)
  rw [State.pickReleased, closeShort_discs, closeShort_globals, closeShort_stamp]
  exact ⟨taken.discs.trans discs, taken.globals.trans globals, taken.stamp.trans stamp⟩

theorem pickReleased_face (face : (s.carousel x.bay.carousel).face = some p) :
    ((s.pickReleased t x w j).carousel x.bay.carousel).face
      = some { p with pendingAudit := mergeScope p.pendingAudit (s.shortPickScope x.bay) } := by
  have taken := picked_takesAway (t := t) (x := x) live
  have facing := (taken.face x.bay.carousel).trans ((congrArg Carousel.face (picked_carousel_zero _)).trans face)
  rw [State.pickReleased, closeShort_face _ facing, State.shortPickScope, taken.globals, picked_fixed.2.1, ← State.shortPickScope]

theorem pickReleased_due : (s.pickReleased t x w j).due.pass = true ∧ (s.pickReleased t x w j).due.face = true
    ∧ (s.pickReleased t x w j).due.freed = true := by
  rw [State.pickReleased, closeShort_due]
  exact ⟨rfl, rfl, (picked_takesAway live).freed (congrArg Due.freed picked_due)⟩

theorem pickReleased_port (q : PortId) :
    (s.pickReleased t x w j).port q = postsTo ((List.finRange 256).filterMap fun u => (s.task u).bind fun z =>
      if u ≠ t ∧ z.worksFor w.lane (PickWork.ofSet w.line j) = true ∧ z.state = .presented then
        (s.carousel z.bay.carousel).cfg.station.map fun st => (stationPort st, Notice.taskCancelled z.bay.carousel u)
      else none) q (s.port q) := by
  rw [State.pickReleased, closeShort_port, (picked_takesAway (t := t) (x := x) live).port, picked_port_zero, filterMap_pickTasks]
  refine congrArg (fun posts => postsTo posts q (s.port q)) (List.filterMap_congr fun u _ => ?_)
  rw [picked_task]
  by_cases own : u = t
  · rw [if_pos own]
    cases s.task u <;> simp [own]
  · rw [if_neg own]
    refine congrArg (Option.bind (s.task u)) (funext fun z => ?_)
    simp only [State.tombNotice, picked_cfg_zero, ite_and, ne_eq, own, not_false_eq_true, if_true]

include stands mine

theorem pickReleased_bay (q : BayRef) :
    (s.pickReleased t x w j).bay q
      = if ∃ u z, s.task u = some z ∧ z.worksFor w.lane (PickWork.ofSet w.line j) = true ∧ z.bay = q then
          (s.bay q).unreserve ((List.finRange 256).map fun u =>
            match s.task u with
            | some z => if z.worksFor w.lane (PickWork.ofSet w.line j) = true ∧ z.bay = q then z.count else 0
            | none => 0).sum
        else s.bay q := by
  have listed : q ∈ ((s.picked t x w 0).pickTasks w.lane (PickWork.ofSet w.line j)).map (fun p => p.2.bay)
      ↔ ∃ u z, u ≠ t ∧ s.task u = some z ∧ z.worksFor w.lane (PickWork.ofSet w.line j) = true ∧ z.bay = q := by
    simp only [List.mem_map, Prod.exists, mem_pickTasks_iff, picked_task]
    constructor
    · rintro ⟨u, z, ⟨here, own⟩, same⟩
      split at here
      · cases here
      · next other => exact ⟨u, z, other, here, own, same⟩
    · rintro ⟨u, z, other, here, own, same⟩
      exact ⟨u, z, ⟨by rw [if_neg other]; exact here, own⟩, same⟩
  have total := (sum_tickets_split (t := t)
    (f := fun u => match s.task u with
      | some z => if z.worksFor w.lane (PickWork.ofSet w.line j) = true ∧ z.bay = q then z.count else 0
      | none => 0)
    (g := fun u => match (s.picked t x w 0).task u with
      | some z => if z.worksFor w.lane (PickWork.ofSet w.line j) = true ∧ z.bay = q then z.count else 0
      | none => 0)
    (by simp [picked_task]) (fun u other => by simp [picked_task, other])).trans
      (congrArg _ (shareOf_pickTasks (s := s.picked t x w 0) (PickWork.ofSet w.line j) q).symm)
  rw [State.pickReleased, closeShort_bay, (picked_takesAway (t := t) (x := x) live).bay, picked_bay_zero, total]
  simp only [stands, mine, true_and]
  by_cases own : q = x.bay
  · have held : ∃ u z, s.task u = some z ∧ z.worksFor w.lane (PickWork.ofSet w.line j) = true ∧ z.bay = q :=
      ⟨t, x, stands, mine, own.symm⟩
    rw [if_pos held, if_pos own, if_pos own.symm, unreserve_unreserve]
    split
    · rfl
    · next out => rw [shareOf_eq_zero out, Nat.add_zero]
  · rw [if_neg own, if_neg (Ne.symm own), Nat.zero_add]
    refine if_congr (listed.trans ⟨fun ⟨u, z, _, rest⟩ => ⟨u, z, rest⟩, fun ⟨u, z, here, isMine, same⟩ =>
      ⟨u, z, ?_, here, isMine, same⟩⟩) rfl rfl
    rintro rfl
    rw [stands] at here
    cases here
    exact own same.symm

end Released

/-! ## PICK_CONFIRM -/

theorem joinShortPick_duePass {v : State} (face : (v.carousel b.carousel).face = some p) (globals : v.globals = s.globals) :
    v.duePass.joinShortPick b = (v.duePass.modCarousel b.carousel fun c => { c with
      face := some { p with pendingAudit := mergeScope p.pendingAudit (s.shortPickScope b) } }).dueFace := by
  rw [State.shortPickScope, ← globals]
  exact joinShortPick_eq (s := v.duePass) face

theorem Counters.pick_all (m : Nat) :
    Counters.pick m m = fun c => { c with allocated := c.allocated - m, transit := c.transit + m } := by
  funext c; simp [Counters.pick]

/-- What the end of a short pick, but for the audit it raises, adds to what is due. -/
theorem closedShort_due (v : State) (g : Carousel → Carousel) (c : CarouselId) :
    (((v.duePass.modCarousel c g).dueFace).duePass).due = { v.due with pass := true, face := true } := rfl

theorem closedShort_port (v : State) (g : Carousel → Carousel) (c : CarouselId) (q : PortId) :
    (((v.duePass.modCarousel c g).dueFace).duePass).port q = v.port q := rfl

theorem closedShort_inner (v : State) (g : Carousel → Carousel) (c : CarouselId) :
    (((v.duePass.modCarousel c g).dueFace).duePass).inner = v.inner.modCarousel c g := rfl

/-- A short pick whose set keeps its tyres, or of an unmatched line. -/
theorem confirmPick_stays (one : s.oneCallPerCarrier) (stands : s.task t = some x) (work : x.work = some w)
    (face : (s.carousel x.bay.carousel).face = some p) (own : p.carrier = x.bay.carrier) (short : k < x.count)
    (stays : ∀ j, w.set = some j → ∃ r, ((s.line? w.lane w.line).bind fun y => y.sets[j]?) = some r
      ∧ 0 < r.tyres.transit + r.tyres.arrived + k) :
    s.confirmPick t x k = (((s.picked t x w k).duePass.modCarousel x.bay.carousel fun c => { c with
      face := some { p with pendingAudit := mergeScope p.pendingAudit (s.shortPickScope x.bay) } }).dueFace).duePass := by
  have presents : (s.carousel x.bay.carousel).presents x.bay.carrier = true := presents_iff.mpr (by rw [face, ← own]; rfl)
  have stay : (s.picked t x w k).afterReopen w = (s.picked t x w k).duePass := by
    refine afterReopen_stays fun j set => ?_
    obtain ⟨r, inSet, held⟩ := stays j set
    obtain ⟨line, here, inLine⟩ := Option.bind_eq_some_iff.mp inSet
    refine ⟨_, picked_sets here set inLine, ?_⟩
    show 0 < r.tyres.transit + k + r.tyres.arrived
    omega
  have facing : ((s.picked t x w k).carousel x.bay.carousel).face = some p := by
    rw [picked_carousel]; exact (changeBay_rest s _ _ _).2.2.2.1.trans face
  rw [confirmPick_eq one stands work presents, if_pos short, stay, joinShortPick_duePass facing picked_fixed.2.1]

theorem picked_booked (h : Header) (t : Ticket) (x : Task) (w : PickWork) (s : State) (k : Nat) :
    ((s.accepted h.port).picked t x w k).inner
        = (((s.booked x.bay (pickedBay k x.count)).modLine w.lane w.line (Line.modTyres w.set (Counters.pick k x.count))).setTask
            t none).inner
      ∧ ((s.accepted h.port).picked t x w k).due
        = { unhold := (s.carousel x.bay.carousel).flips x.bay.carrier x.bay.bay (pickedBay k x.count),
            select := (s.carousel x.bay.carousel).flips x.bay.carrier x.bay.bay (pickedBay k x.count), face := true, freed := true }
      ∧ ∀ q, ((s.accepted h.port).picked t x w k).port q
        = postsTo (s.bookPosts x.bay (pickedBay k x.count)) q (if q = h.port then (s.port q).taken else s.port q) := by
  refine ⟨?_, ?_, fun q => ?_⟩
  · have pushed (v : State) : (v.modWork w (Counters.pick k x.count)).inner.setTask t none
        = (v.inner.modWork w (Counters.pick k x.count)).setTask t none := rfl
    have pushed' (v : State) : ((v.modWork w (Counters.pick k x.count)).setTask t none).inner
        = (v.inner.modWork w (Counters.pick k x.count)).setTask t none := rfl
    rw [picked_inner, pushed, State.booked, modCarousel_inner, accepted_inner, ← modCarousel_inner, ← State.booked, ← pushed']
    rfl
  · rw [picked_due, changeBay_due, accepted_due]
    simp
  · rw [picked_port, accepted_port]; rfl

/-- Settles O26: the confirmed tyres move first; a short pick then raises the audit and, where the set lost its last tyre, the
release of the set. -/
theorem pickConfirmMovesTheTyres : Obligations.PickConfirmMovesTheTyres := by
  have runs {h : Header} {t : Ticket} {x : Task} {st : StationId} {s : State} {k : Nat} (ready : s.readyFor h.port)
      (station : h.port = stationPort st) (stands : s.task t = some x) (pick : x.kind = .pick) (presented : x.state = .presented)
      (own : (s.carousel x.bay.carousel).cfg.station = some st) (fits : k ≤ x.count) (byte : k ≤ 15) :
      exec (.pickConfirm h (byteOf t.val) (byteOf k)) s = .next ((((s.accepted h.port).confirmPick t x k).releaseHolds).respond
        ⟨h.port, RequestCode.byte .pickConfirm, h.tag⟩ .done []).settle := by
    have runs := (admitted_pickConfirm ready station (byteOf t.val) (byteOf k)).exec_eq_take (parse_pickConfirm t k byte) rfl
    have sends : (s.accepted h.port).stationSends h.port x.bay.carousel = true := by
      rw [station]; exact stationSends_iff.mpr own
    rwa [State.take, takePickConfirm_taken (s := s.accepted h.port) stands sends presented pick fits] at runs
  refine ⟨?whole, ?short, ?released⟩
  case whole =>
    intro h t x w st s ready station stands pick presented work own byte one presents f flips
    refine ⟨_, runs ready station stands pick presented own le_rfl byte, ?_⟩
    rw [confirmPick_eq (s := s.accepted h.port) one stands work presents, if_neg (lt_irrefl _)]
    obtain ⟨inner, due, port⟩ := picked_booked h t x w s x.count
    rw [Counters.pick_all] at inner
    exact ⟨inner, due, port⟩
  case short =>
    intro h t k x w p st s ready station stands pick presented work own short byte one face faced stays f flips scope
    refine ⟨_, runs ready station stands pick presented own short.le byte, ?_⟩
    rw [confirmPick_stays (s := s.accepted h.port) one stands work face faced short stays]
    obtain ⟨inner, due, port⟩ := picked_booked h t x w s k
    refine ⟨?_, ?_, fun q => ?_⟩
    · rw [closedShort_inner, inner, modCarousel_inner]; rfl
    · rw [closedShort_due, due]; rfl
    · rw [closedShort_port, port]; rfl
  case released =>
    intro h t x w j line r p st s ready station stands pick presented work own some_ one face faced set here inSet noTransit
      noArrived live mine share scope
    have presents : (s.carousel x.bay.carousel).presents x.bay.carrier = true := presents_iff.mpr (by rw [face, ← faced]; rfl)
    have isMine {z : Task} : z.worksFor w.lane (PickWork.ofSet w.line j) = mine z := by
      rw [Bool.eq_iff_iff, worksFor_ofSet]; exact decide_eq_true_iff.symm
    have mineSelf : x.worksFor w.lane (PickWork.ofSet w.line j) = true := worksFor_ofSet.mpr (by rw [work, ← set]; rfl)
    have picks : ∀ u z, (s.accepted h.port).task u = some z → z.worksFor w.lane (PickWork.ofSet w.line j) = true →
        z.kind = .pick ∧ z.state ≠ .cancelled := fun u z there isOfSet =>
      live u z there fun idle => by rw [worksFor_ofSet, idle] at isOfSet; cases isOfSet
    refine ⟨_, runs ready station stands pick presented own (Nat.zero_le _) (Nat.zero_le _), ?_⟩
    rw [confirmPick_releases (s := s.accepted h.port) one stands work presents some_ set here inSet ⟨noTransit, noArrived⟩]
    have bay := pickReleased_bay (s := s.accepted h.port) stands mineSelf picks
    obtain ⟨pass, faceDue, freed⟩ := pickReleased_due (t := t) (x := x) picks
    obtain ⟨discs, globals, stamp⟩ := pickReleased_fixed (t := t) (x := x) picks
    have lane := pickReleased_lane (s := s.accepted h.port) (t := t) (x := x) set here inSet
    have task := pickReleased_task (t := t) (x := x) picks
    have carousel := pickReleased_carousel (t := t) (x := x) picks
    have payload := pickReleased_payload (t := t) (x := x) picks
    have facing := pickReleased_face (t := t) (x := x) picks face
    have port := pickReleased_port (t := t) (x := x) picks
    generalize (s.accepted h.port).pickReleased t x w j = y at *
    refine ⟨fun u => ?_, fun q => ⟨fun none_ => ?_, fun u z there isOf same => ?_⟩, payload, lane w.lane, fun m other => ?_,
      facing, carousel, discs, globals, stamp, pass, faceDue, freed, fun q => ?_⟩
    · rw [task u, accepted_task]
      cases there : s.task u with
      | none => simp
      | some z => simp only [Option.bind_some, isMine, Task.takenAway]; cases mine z <;> simp
    · rw [bay q]
      refine if_neg ?_
      rintro ⟨u, z, there, isOf, same⟩
      exact none_ u z there (isMine ▸ isOf) same
    · rw [bay q]
      refine (if_pos ⟨u, z, there, isMine.trans isOf, same⟩).trans ?_
      simp only [isMine]
      rfl
    · rw [lane m]
      exact modLane_lane_ne _ _ (Ne.symm other)
    · rw [port q, accepted_port]
      simp only [isMine]
      rfl

end ShortPicks

end Sys2Proof.Machine

/-! Calls that lost their content, and choices that lapsed (R78, R82, R134). -/

namespace Sys2Proof.Machine

section Prunes

variable {s t u : State} {c d : CarouselId} {k : CarrierId} {q : Call} {x : Carousel} {busy : CarrierId → Bool}
  {ks : List CarrierId}

/-! ## Calls left with nothing are removed (R78, R134) -/

/-- The call has content: a scope, or a carrier with a QUEUED task. -/
def Call.full (busy : CarrierId → Bool) (q : Call) : Bool := q.scope.isSome || busy q.carrier

/-- The choice of a waiting carousel is a call of one of these carriers that has no content. -/
def Carousel.choiceGoes (busy : CarrierId → Bool) (ks : List CarrierId) (x : Carousel) : Bool :=
  x.motion.state = .waitPermit
    && x.calls.any fun q => x.motion.chosen.map Choice.carrier = some q.carrier && decide (q.carrier ∈ ks) && !q.full busy

theorem choiceGoes_iff : x.choiceGoes busy ks = true ↔ x.motion.state = .waitPermit
    ∧ ∃ q ∈ x.calls, x.motion.chosen.map Choice.carrier = some q.carrier ∧ q.carrier ∈ ks ∧ q.full busy = false := by
  simp [Carousel.choiceGoes, and_assoc]

/-- A waiting carousel without its choice (R82). -/
def Motion.unchosen (m : Motion) : Motion := { m with state := .idle, chosen := none }

/-- The calls of some carriers that have no content go, and with them the choice (R78, R82). -/
def Carousel.prune (busy : CarrierId → Bool) (ks : List CarrierId) (x : Carousel) : Carousel :=
  { x with calls := x.calls.filter fun q => decide (q.carrier ∉ ks) || q.full busy,
           motion := if x.choiceGoes busy ks then x.motion.unchosen else x.motion }

theorem prune_nil : x.prune busy [] = x := by
  have stays : x.choiceGoes busy [] = false := by rw [← Bool.not_eq_true, choiceGoes_iff]; simp
  rw [Carousel.prune, stays]
  simp

theorem prune_one (one : x.oneCallPerCarrier) : (x.prune busy ks).oneCallPerCarrier := by
  obtain ⟨nodup, away⟩ := one
  have sub : ((x.prune busy ks).calls.map Call.carrier).Sublist (x.calls.map Call.carrier) := List.filter_sublist.map _
  exact ⟨nodup.sublist sub, fun p face mem => away p face (sub.subset mem)⟩

theorem prune_prune : (x.prune busy [k]).prune busy ks = x.prune busy (k :: ks) := by
  have calls : ((x.prune busy [k]).prune busy ks).calls = (x.prune busy (k :: ks)).calls := by
    simp only [Carousel.prune, List.filter_filter]
    refine List.filter_congr fun q _ => ?_
    by_cases q.full busy = true <;> by_cases q.carrier = k <;> by_cases q.carrier ∈ ks <;> simp_all
  have motion : ((x.prune busy [k]).prune busy ks).motion = (x.prune busy (k :: ks)).motion := by
    by_cases first : x.choiceGoes busy [k] = true
    · have both : x.choiceGoes busy (k :: ks) = true := by
        obtain ⟨waits, q, mem, chosen, own, empty⟩ := choiceGoes_iff.mp first
        exact choiceGoes_iff.mpr ⟨waits, q, mem, chosen, List.mem_cons.mpr (.inl (List.mem_singleton.mp own)), empty⟩
      have idle : (x.prune busy [k]).choiceGoes busy ks = false := by
        rw [← Bool.not_eq_true, choiceGoes_iff]
        simp [Carousel.prune, first, Motion.unchosen]
      rw [Carousel.prune, idle]
      simp [Carousel.prune, first, both]
    · have same : (x.prune busy [k]).choiceGoes busy ks = x.choiceGoes busy (k :: ks) := by
        have kept : (x.prune busy [k]).motion = x.motion := if_neg first
        rw [Bool.eq_iff_iff, choiceGoes_iff, choiceGoes_iff, kept]
        refine and_congr_right fun waits => ⟨?_, ?_⟩
        · rintro ⟨q, mem, chosen, own, empty⟩
          exact ⟨q, List.mem_of_mem_filter mem, chosen, List.mem_cons_of_mem _ own, empty⟩
        · rintro ⟨q, mem, chosen, own, empty⟩
          have other : q.carrier ≠ k := fun e =>
            first (choiceGoes_iff.mpr ⟨waits, q, mem, chosen, List.mem_singleton.mpr e, empty⟩)
          exact ⟨q, List.mem_filter.mpr ⟨mem, by simp [other]⟩, chosen, (List.mem_cons.mp own).resolve_left other, empty⟩
      have kept : (x.prune busy [k]).motion = x.motion := if_neg first
      show (if (x.prune busy [k]).choiceGoes busy ks then (x.prune busy [k]).motion.unchosen else (x.prune busy [k]).motion)
        = if x.choiceGoes busy (k :: ks) then x.motion.unchosen else x.motion
      rw [same, kept]
  calc (x.prune busy [k]).prune busy ks
      = { x with calls := ((x.prune busy [k]).prune busy ks).calls, motion := ((x.prune busy [k]).prune busy ks).motion } := rfl
    _ = x.prune busy (k :: ks) := by rw [calls, motion]; rfl

/-- The carriers of a carousel with a QUEUED task. -/
def State.busyOn (s : State) (c : CarouselId) (k : CarrierId) : Bool := !(s.queuedOn c k).isEmpty

theorem callIsEmpty_iff (one : (s.carousel c).oneCallPerCarrier) :
    s.CallIsEmpty c k ↔ ∃ q ∈ (s.carousel c).calls, q.carrier = k ∧ q.full (s.busyOn c) = false := by
  constructor
  · rintro ⟨called, noScope, noTask⟩
    obtain ⟨q, called⟩ := Option.ne_none_iff_exists'.mp called
    rw [called, Option.bind_some] at noScope
    have own : q.carrier = k := by simpa using List.find?_some called
    exact ⟨q, List.mem_of_find?_eq_some called, own, by simp [Call.full, noScope, own, State.busyOn, noTask]⟩
  · rintro ⟨q, mem, own, empty⟩
    have called : (s.carousel c).callFor k = some q := by
      rw [Carousel.callFor, List.find?_eq_some_iff_append]
      obtain ⟨before, after, split⟩ := List.append_of_mem mem
      refine ⟨by simp [own], before, after, split, fun r early => ?_⟩
      have nodup := one.1
      rw [split, List.map_append, List.nodup_append] at nodup
      have other := nodup.2.2 _ (List.mem_map_of_mem early) _ (by rw [List.map_cons]; exact List.mem_cons_self ..)
      simpa [← own] using other
    rw [Call.full, Bool.or_eq_false_iff] at empty
    refine ⟨by simp [called], ?_, ?_⟩
    · simpa [called] using empty.1
    · simpa [State.busyOn, own] using empty.2

/-- One call that may go: the queue of the carousel, its choice, and that selection is due. -/
theorem pruneCall_prunes (one : (s.carousel c).oneCallPerCarrier) :
    ∃ b, s.pruneCall c k
      = { s.modCarousel c (Carousel.prune (s.busyOn c) [k]) with due := { s.due with select := b } } := by
  by_cases empty : s.CallIsEmpty c k
  · obtain ⟨q, mem, own, bare⟩ := (callIsEmpty_iff one).mp empty
    rw [pruneCall_of_empty empty]
    have only (r : Call) (there : r ∈ (s.carousel c).calls) (same : r.carrier = k) : r = q :=
      List.inj_on_of_nodup_map one.1 there mem (same.trans own.symm)
    have calls : (s.carousel c).calls.filter (fun r => r.carrier ≠ k)
        = (s.carousel c).calls.filter fun r => decide (r.carrier ∉ [k]) || r.full (s.busyOn c) := by
      refine List.filter_congr fun r there => ?_
      by_cases same : r.carrier = k
      · rw [only r there same, own, bare]; simp
      · simp [same]
    have goes : (s.carousel c).choiceGoes (s.busyOn c) [k] = true
        ↔ (s.motion c).state = .waitPermit ∧ (s.motion c).chosen.map Choice.carrier = some k := by
      rw [choiceGoes_iff]
      refine and_congr_right fun _ => ⟨?_, fun chosen => ⟨q, mem, chosen.trans (by rw [own]), by simp [own], bare⟩⟩
      rintro ⟨r, _, chosen, same, _⟩
      rw [← List.mem_singleton.mp same]; exact chosen
    by_cases chosen : (s.motion c).state = .waitPermit ∧ (s.motion c).chosen.map Choice.carrier = some k
    · refine ⟨true, ?_⟩
      have dropped : s.removeCall c k = (s.modCarousel c fun x => { x with calls := x.calls.filter fun q => q.carrier ≠ k }).dropChoice c :=
        if_pos chosen
      have pruned : s.modCarousel c (Carousel.prune (s.busyOn c) [k]) = s.modCarousel c fun x =>
          { x with calls := x.calls.filter fun q => q.carrier ≠ k, motion := x.motion.unchosen } := by
        refine modCarousel_congr _ _ ?_
        rw [Carousel.prune, goes.mpr chosen, ← calls]; rfl
      rw [dropped, pruned, State.dropChoice, State.modMotion, modCarousel_modCarousel]
      rfl
    · refine ⟨s.due.select, ?_⟩
      have removed : s.removeCall c k = s.modCarousel c fun x => { x with calls := x.calls.filter fun q => q.carrier ≠ k } :=
        if_neg chosen
      rw [removed]
      refine modCarousel_congr _ _ ?_
      rw [Carousel.prune, if_neg (mt goes.mp chosen), ← calls]
  · have kept : s.modCarousel c (Carousel.prune (s.busyOn c) [k]) = s := by
      have full (r : Call) (there : r ∈ (s.carousel c).calls) (same : r.carrier = k) : r.full (s.busyOn c) = true := by
        by_contra bare
        exact empty ((callIsEmpty_iff one).mpr ⟨r, there, same, by simpa using bare⟩)
      have stays : (s.carousel c).choiceGoes (s.busyOn c) [k] = false := by
        rw [← Bool.not_eq_true, choiceGoes_iff]
        rintro ⟨_, r, there, _, same, bare⟩
        rw [full r there (List.mem_singleton.mp same)] at bare
        cases bare
      have calls : ((s.carousel c).calls.filter fun r => decide (r.carrier ∉ [k]) || r.full (s.busyOn c)) = (s.carousel c).calls := by
        refine List.filter_eq_self.mpr fun r there => ?_
        by_cases same : r.carrier = k
        · simp [full r there same]
        · simp [same]
      refine modCarousel_id _ _ ?_
      rw [Carousel.prune, stays, calls]; rfl
    rw [kept, State.pruneCall]
    split
    · exact ⟨s.due.select, rfl⟩
    · next q called =>
      have notEmpty : (q.scope.isNone && (s.queuedOn c k).isEmpty) = false := by
        by_contra gone
        simp only [Bool.not_eq_false, Bool.and_eq_true, Option.isNone_iff_eq_none, List.isEmpty_iff] at gone
        exact empty ⟨by simp [called], by rw [called, Option.bind_some, gone.1], gone.2⟩
      rw [notEmpty]
      exact ⟨true, rfl⟩

theorem foldl_pruneCall (ks : List CarrierId) (one : (s.carousel c).oneCallPerCarrier) :
    ∃ b, ks.foldl (fun acc k => acc.pruneCall c k) s
      = { s.modCarousel c (Carousel.prune (s.busyOn c) ks) with due := { s.due with select := b } } := by
  induction ks generalizing s with
  | nil => exact ⟨s.due.select, (modCarousel_id _ _ prune_nil).symm⟩
  | cons k rest ih =>
    obtain ⟨b, first⟩ := pruneCall_prunes (k := k) one
    have busy : (s.pruneCall c k).busyOn c = s.busyOn c := by
      funext n
      rw [State.busyOn, queuedOn_of_tasks (pruneCall_tasks ..), State.busyOn]
    have carousel : (s.pruneCall c k).carousel c = (s.carousel c).prune (s.busyOn c) [k] := by
      rw [first]; exact modCarousel_carousel_self ..
    obtain ⟨b', then_⟩ := ih (s := s.pruneCall c k) (by rw [carousel]; exact prune_one one)
    refine ⟨b', ?_⟩
    rw [List.foldl_cons, then_, busy, first]
    have twice : (s.modCarousel c (Carousel.prune (s.busyOn c) [k])).modCarousel c (Carousel.prune (s.busyOn c) rest)
        = s.modCarousel c (Carousel.prune (s.busyOn c) (k :: rest)) := by
      rw [modCarousel_modCarousel]
      exact modCarousel_congr _ _ prune_prune
    exact congrArg (fun v : State => { v with due := { s.due with select := b' } }) twice

theorem pruneCalls_prunes (one : (s.carousel c).oneCallPerCarrier) :
    ∃ b, s.pruneCalls c = { s.modCarousel c (Carousel.prune (s.busyOn c) ((s.carousel c).calls.map Call.carrier)) with
      due := { s.due with select := b } } :=
  foldl_pruneCall _ one

/-- Where every carrier with a call is looked at, the calls with content stay. -/
theorem prune_all : x.prune busy (x.calls.map Call.carrier) = { x with
    calls := x.calls.filter (Call.full busy),
    motion := if x.motion.state = .waitPermit
        ∧ ∃ q ∈ x.calls, x.motion.chosen.map Choice.carrier = some q.carrier ∧ q.full busy = false then
      x.motion.unchosen else x.motion } := by
  have calls : (x.calls.filter fun q => decide (q.carrier ∉ x.calls.map Call.carrier) || q.full busy)
      = x.calls.filter (Call.full busy) := by
    refine List.filter_congr fun q there => ?_
    simp [List.mem_map_of_mem (f := Call.carrier) there]
  have goes : x.choiceGoes busy (x.calls.map Call.carrier) = true ↔ x.motion.state = .waitPermit
      ∧ ∃ q ∈ x.calls, x.motion.chosen.map Choice.carrier = some q.carrier ∧ q.full busy = false := by
    rw [choiceGoes_iff]
    refine and_congr_right fun _ => exists_congr fun q => and_congr_right fun there => ?_
    simp [List.mem_map_of_mem (f := Call.carrier) there]
  rw [Carousel.prune, calls]
  exact congrArg (fun m => { x with calls := x.calls.filter (Call.full busy), motion := m }) (if_congr goes rfl rfl)

/-! ## Choices that lapsed (R82) -/

/-- Nothing that makes a call eligible differs: the tasks, the entries, and the carousels but for their motion. -/
structure SameContent (s t : State) : Prop where
  tasks : t.tasks = s.tasks
  discs : t.discs = s.discs
  carousel : ∀ c, t.carousel c = { s.carousel c with motion := t.motion c }

namespace SameContent

theorem refl (s : State) : SameContent s s := ⟨rfl, rfl, fun _ => rfl⟩

theorem trans (h : SameContent s t) (h' : SameContent t u) : SameContent s u :=
  ⟨h'.tasks.trans h.tasks, h'.discs.trans h.discs, fun c => by rw [h'.carousel, h.carousel]⟩

theorem dropChoice (s : State) (c : CarouselId) : SameContent s (s.dropChoice c) := by
  refine ⟨rfl, rfl, fun d => ?_⟩
  have carousels : (s.dropChoice c).carousel d = (s.modMotion c fun m => { m with state := .idle, chosen := none }).carousel d := rfl
  rw [State.motion, carousels, State.modMotion, modCarousel_carousel]
  split
  · next own => subst own; rfl
  · rfl

theorem calls (h : SameContent s t) (c : CarouselId) : (t.carousel c).calls = (s.carousel c).calls := by rw [h.carousel]

theorem content (h : SameContent s t) (c : CarouselId) (q : Call) : t.content c q = s.content c q := by
  have bay (r : BayRef) : t.bay r = s.bay r := by rw [State.bay, State.carrier, h.carousel]; rfl
  have held (x : Task) : t.isHeld x = s.isHeld x := by rw [State.isHeld, bay, h.carousel]; rfl
  have free : t.freeEntries = s.freeEntries := by
    rw [State.freeEntries]; simp only [State.disc, h.discs]; rfl
  have scopes (x : Scope) : t.scopeEligible c q.carrier x = s.scopeEligible c q.carrier x := by
    simp only [State.scopeEligible, bay, free]
  have sweep : (t.carousel c).scopeClass = (s.carousel c).scopeClass := by rw [h.carousel]; rfl
  rw [State.content, queuedOn_of_tasks h.tasks]
  simp only [held, scopes, sweep]
  rfl

theorem eligible (h : SameContent s t) (c : CarouselId) (q : Call) : t.eligible c q = s.eligible c q := by
  simp only [State.eligible, State.unmarkedEligible, h.content, h.calls]

theorem lapsed (h : SameContent s t) (motion : t.motion c = s.motion c) : t.lapsed c = s.lapsed c := by
  have call (k : CarrierId) : (t.carousel c).callFor k = (s.carousel c).callFor k := by
    rw [Carousel.callFor, h.calls]; rfl
  have able : t.eligible c = s.eligible c := funext (h.eligible c)
  simp only [State.lapsed, motion, call, able]

end SameContent

theorem dropChoice_motion : (s.dropChoice c).motion d = if c = d then (s.motion d).unchosen else s.motion d := by
  have motion : (s.dropChoice c).motion d = ((s.modMotion c Motion.unchosen).carousel d).motion := rfl
  rw [motion, State.modMotion, modCarousel_carousel]
  split
  · next own => subst own; rfl
  · rfl

/-- The choices of some carousels that lapsed are dropped. -/
theorem foldl_dropLapsed (cs : List CarouselId) (once : cs.Nodup) :
    let t := cs.foldl (fun acc c => if acc.lapsed c then acc.dropChoice c else acc) s
    SameContent s t ∧ ∀ c, t.motion c = if c ∈ cs ∧ s.lapsed c = true then (s.motion c).unchosen else s.motion c := by
  induction cs generalizing s with
  | nil => exact ⟨.refl s, fun c => by simp⟩
  | cons d rest ih =>
    obtain ⟨out, once⟩ := List.nodup_cons.mp once
    have first : SameContent s (if s.lapsed d then s.dropChoice d else s)
        ∧ ∀ c, (if s.lapsed d then s.dropChoice d else s).motion c
          = if c = d ∧ s.lapsed d = true then (s.motion c).unchosen else s.motion c := by
      by_cases gone : s.lapsed d = true
      · rw [if_pos gone]
        refine ⟨.dropChoice s d, fun c => ?_⟩
        rw [dropChoice_motion]
        exact if_congr ⟨fun e => ⟨e.symm, gone⟩, fun e => e.1.symm⟩ rfl rfl
      · rw [if_neg gone]
        exact ⟨.refl s, fun c => (if_neg fun e => gone e.2).symm⟩
    rw [List.foldl_cons]
    generalize (if s.lapsed d then s.dropChoice d else s) = v at first ⊢
    obtain ⟨same, motion⟩ := first
    obtain ⟨same', motion'⟩ := ih once (s := v)
    refine ⟨same.trans same', fun c => ?_⟩
    rw [motion' c]
    by_cases own : c = d
    · subst own
      rw [if_neg fun e => out e.1, motion c]
      simp
    · have kept : v.motion c = s.motion c := by rw [motion c, if_neg fun e => own e.1]
      rw [kept, same.lapsed kept]
      simp [own]

theorem dropLapsed_same : SameContent s s.dropLapsed := (foldl_dropLapsed _ (List.nodup_finRange 6)).1

theorem dropLapsed_motion : s.dropLapsed.motion c = if s.lapsed c = true then (s.motion c).unchosen else s.motion c := by
  have dropped := (foldl_dropLapsed (s := s) carouselIds (List.nodup_finRange 6)).2 c
  exact dropped.trans (if_congr ⟨fun e => e.2, fun e => ⟨List.mem_finRange c, e⟩⟩ rfl rfl)

theorem dropLapsed_lapsed : s.dropLapsed.lapsed c = false := by
  by_cases gone : s.lapsed c = true
  · have idle : (s.dropLapsed.motion c).state = .idle := by rw [dropLapsed_motion, if_pos gone]; rfl
    simp [State.lapsed, idle]
  · rw [dropLapsed_same.lapsed (by rw [dropLapsed_motion, if_neg gone])]
    simpa using gone

theorem dropLapsed_of_none (none_ : ∀ c, s.lapsed c = false) : s.dropLapsed = s := by
  have kept (cs : List CarouselId) : cs.foldl (fun acc c => if acc.lapsed c then acc.dropChoice c else acc) s = s := by
    induction cs with
    | nil => rfl
    | cons d rest ih =>
      rw [List.foldl_cons, none_ d]
      exact ih
  exact kept carouselIds

theorem selectAll_dropLapsed : s.selectAll = s.dropLapsed.selectAll := by
  rw [State.selectAll, State.selectAll, selectLoop_succ (fuel := 5), selectLoop_succ (fuel := 5), dropLapsed_of_none fun _ => dropLapsed_lapsed]

end Prunes

end Sys2Proof.Machine

/-! AUDIT_STOP (R134). -/

namespace Sys2Proof.Machine

section Stops

variable {s t u : State} {c d : CarouselId} {k : CarrierId} {q : Call} {x : Carousel} {p : Presentation} {h : Header}
  {rt : ReplyTo} {busy : CarrierId → Bool}

/-! ## A carousel without its sweep -/

/-- A call without its SWEEP bays and without the sweep flag. -/
def Call.unswept (q : Call) : Call := { q with scope := q.scope.bind Scope.withoutSweep }

/-- A presentation without the sweep's share of what waits to be counted. -/
def Presentation.unswept (p : Presentation) : Presentation :=
  { p with pendingAudit := p.pendingAudit.bind Scope.withoutSweep, deferred := p.deferred.bind Scope.withoutSweep }

theorem withoutSweep_one (one : x.oneCallPerCarrier) : x.withoutSweep.oneCallPerCarrier := by
  obtain ⟨nodup, away⟩ := one
  have carriers : x.withoutSweep.calls.map Call.carrier = x.calls.map Call.carrier := by
    simp [Carousel.withoutSweep]
  refine ⟨carriers ▸ nodup, fun p face => ?_⟩
  obtain ⟨p', face', rfl⟩ := Option.map_eq_some_iff.mp face
  exact carriers ▸ away p' face'

/-- The carousel after AUDIT_STOP, but for what the test of its face does. -/
def Carousel.stopped (busy : CarrierId → Bool) (x : Carousel) : Carousel :=
  { x with
    sweep := none, calls := (x.calls.map Call.unswept).filter (Call.full busy), face := x.face.map Presentation.unswept,
    phase := x.phase.map fun f => { f with sweep := false },
    motion := if x.motion.state = .waitPermit
        ∧ ∃ q ∈ x.calls, x.motion.chosen.map Choice.carrier = some q.carrier ∧ q.unswept.full busy = false then
      x.motion.unchosen else x.motion }

theorem stopped_of_not_waiting (other : x.motion.state ≠ .waitPermit) :
    x.stopped busy = { x with
      sweep := none, calls := (x.calls.map Call.unswept).filter (Call.full busy), face := x.face.map Presentation.unswept,
      phase := x.phase.map fun f => { f with sweep := false } } := by
  rw [Carousel.stopped, if_neg fun e => other e.1]

/-- The state of AUDIT_STOP when the test of the face comes. -/
def State.unswept (s : State) (c : CarouselId) : State := (s.modCarousel c Carousel.withoutSweep).pruneCalls c

theorem takeAuditStop_none (sweep : (s.carousel c).sweep = none) : s.takeAuditStop rt c = s.refuse rt .noSuch := by
  rw [State.takeAuditStop, sweep]; rfl

theorem takeAuditStop_some (sweep : (s.carousel c).sweep ≠ none) :
    s.takeAuditStop rt c = (((s.unswept c).faceTest c).dueSelect).respond rt .done [] := by
  obtain ⟨w, sweep⟩ := Option.ne_none_iff_exists'.mp sweep
  rw [State.takeAuditStop, sweep]; rfl

theorem withoutSweep_prune_all :
    x.withoutSweep.prune busy (x.withoutSweep.calls.map Call.carrier) = x.stopped busy := by
  have goes : (x.withoutSweep.motion.state = .waitPermit
      ∧ ∃ q ∈ x.withoutSweep.calls, x.withoutSweep.motion.chosen.map Choice.carrier = some q.carrier ∧ q.full busy = false)
      ↔ x.motion.state = .waitPermit
        ∧ ∃ q ∈ x.calls, x.motion.chosen.map Choice.carrier = some q.carrier ∧ q.unswept.full busy = false := by
    refine and_congr_right fun _ => ⟨?_, ?_⟩
    · rintro ⟨q, mem, chosen, empty⟩
      obtain ⟨r, there, rfl⟩ := List.mem_map.mp mem
      exact ⟨r, there, chosen, empty⟩
    · rintro ⟨q, mem, chosen, empty⟩
      exact ⟨q.unswept, List.mem_map_of_mem mem, chosen, empty⟩
  rw [prune_all]
  exact congrArg (fun m => { x.withoutSweep with calls := x.withoutSweep.calls.filter (Call.full busy), motion := m })
    (if_congr goes rfl rfl)

theorem unswept_eq (one : (s.carousel c).oneCallPerCarrier) :
    ∃ b, s.unswept c = { s.modCarousel c (Carousel.stopped (s.busyOn c)) with due := { s.due with select := b } } := by
  have swept : (s.modCarousel c Carousel.withoutSweep).carousel c = (s.carousel c).withoutSweep := modCarousel_carousel_self ..
  obtain ⟨b, pruned⟩ := pruneCalls_prunes (s := s.modCarousel c Carousel.withoutSweep) (c := c)
    (by rw [swept]; exact withoutSweep_one one)
  refine ⟨b, pruned.trans ?_⟩
  have same : (s.modCarousel c Carousel.withoutSweep).modCarousel c (Carousel.prune (s.busyOn c)
      (((s.modCarousel c Carousel.withoutSweep).carousel c).calls.map Call.carrier))
        = s.modCarousel c (Carousel.stopped (s.busyOn c)) := by
    rw [modCarousel_modCarousel, swept]
    exact modCarousel_congr _ _ withoutSweep_prune_all
  exact congrArg (fun v : State => { v with due := { s.due with select := b } }) same

/-! ## What the test of the face finds -/

/-- The presentation goes on, or there is none. -/
theorem takeAuditStop_goes_on (sweep : (s.carousel c).sweep ≠ none) (stays : (s.unswept c).faceTest c = s.unswept c) :
    s.takeAuditStop rt c = ((s.unswept c).dueSelect).respond rt .done [] := by
  rw [takeAuditStop_some sweep, stays]

section Unswept

variable (one : (s.carousel c).oneCallPerCarrier)
include one

theorem unswept_carousel (d : CarouselId) :
    (s.unswept c).carousel d = if c = d then (s.carousel d).stopped (s.busyOn c) else s.carousel d := by
  obtain ⟨_, e⟩ := unswept_eq one
  rw [e]
  exact (modCarousel_carousel ..).trans (by split <;> simp_all)

theorem unswept_tasks : (s.unswept c).tasks = s.tasks := by obtain ⟨_, e⟩ := unswept_eq one; rw [e]; rfl
theorem unswept_lanes : (s.unswept c).lanes = s.lanes := by obtain ⟨_, e⟩ := unswept_eq one; rw [e]; rfl
theorem unswept_discs : (s.unswept c).discs = s.discs := by obtain ⟨_, e⟩ := unswept_eq one; rw [e]; rfl
theorem unswept_ports : (s.unswept c).ports = s.ports := by obtain ⟨_, e⟩ := unswept_eq one; rw [e]; rfl
theorem unswept_stamp : (s.unswept c).stamp = s.stamp := by obtain ⟨_, e⟩ := unswept_eq one; rw [e]; rfl
theorem unswept_inner : (s.unswept c).inner = s.inner.modCarousel c (Carousel.stopped (s.busyOn c)) := by
  obtain ⟨_, e⟩ := unswept_eq one; rw [e]; rfl

theorem unswept_dueSelect : (s.unswept c).dueSelect.due = { s.due with select := true } := by
  obtain ⟨_, e⟩ := unswept_eq one
  rw [e]; rfl

theorem unswept_face : ((s.unswept c).carousel c).face = (s.carousel c).face.map Presentation.unswept := by
  rw [unswept_carousel one, if_pos rfl]; rfl

theorem unswept_phase : ((s.unswept c).carousel c).phase = (s.carousel c).phase.map fun f => { f with sweep := false } := by
  rw [unswept_carousel one, if_pos rfl]; rfl

/-- The carrier presented has no call. -/
theorem unswept_uncalled (face : (s.carousel c).face = some p) : ((s.unswept c).carousel c).callFor p.carrier = none := by
  have out := one.2 p face
  rw [unswept_carousel one, if_pos rfl, Carousel.callFor, List.find?_eq_none]
  intro q mem own
  obtain ⟨r, there, rfl⟩ := List.mem_map.mp (List.mem_of_mem_filter mem)
  exact out (List.mem_map.mpr ⟨r, there, of_decide_eq_true own⟩)

theorem takeAuditStop_ends (sweep : (s.carousel c).sweep ≠ none) (face : (s.carousel c).face = some p)
    (phase : (s.carousel c).phase = none) (none_ : s.presentedOn c = []) (audit : p.unswept.pendingAudit = none) :
    s.takeAuditStop rt c = (((s.unswept c).endPresentation c p.unswept).dueSelect).respond rt .done [] := by
  rw [takeAuditStop_some sweep, faceTest_of_idle (by rw [unswept_face one, face]; rfl) (by rw [unswept_phase one, phase]; rfl)
    (by rw [presentedOn_of_tasks _ (unswept_tasks one), none_]) audit]

end Unswept

theorem admitted_auditStop (ready : s.readyFor h.port) (stock : h.port = stockPort) (v : Byte) :
    Admitted s (.auditStop h v) h .auditStop [v] :=
  admitted_stock ready stock rfl (Nat.le_of_ble_eq_true rfl) rfl

/-- AUDIT_STOP where the presentation goes on or there is none. -/
theorem auditStop_completes (ready : s.readyFor h.port) (stock : h.port = stockPort) (sweep : (s.carousel c).sweep ≠ none)
    (one : (s.carousel c).oneCallPerCarrier)
    (stays : ((s.accepted h.port).unswept c).faceTest c = (s.accepted h.port).unswept c) {f : Carousel → Carousel}
    (same : (s.carousel c).stopped (s.busyOn c) = f (s.carousel c)) :
    CompletesThen (.auditStop h (byteOf c.val)) s h .auditStop .done [] [] { select := true } (s.modCarousel c f) := by
  refine (admitted_auditStop ready stock (byteOf c.val)).completesThen_of_take_respond _ (parse_auditStop c) rfl
    (takeAuditStop_goes_on (s := s.accepted h.port) sweep stays) ?_ ?_ fun q => ?_
  · rw [unswept_dueSelect (s := s.accepted h.port) one, accepted_due]
  · rw [dueSelect_inner, unswept_inner (s := s.accepted h.port) one, accepted_inner, modCarousel_inner]
    exact modCarousel_congr _ _ same
  · show look ((s.accepted h.port).unswept c).ports q = _
    rw [unswept_ports (s := s.accepted h.port) one, postsTo_nil]; rfl

/-- Settles O32: the sweep goes out of the carousel, calls left with nothing go, and then the face is tested. -/
theorem auditStopTakesTheSweepAway : Obligations.AuditStopTakesTheSweepAway := by
  refine ⟨fun h c s ready stock => ?stop, fun c s waits => ?lapse⟩
  case stop =>
    intro x i kept stopped
    have full : stopped x = { x with
        sweep := none, calls := (x.calls.map Call.unswept).filter (Call.full (s.busyOn c)) } := rfl
    refine ⟨fun sweep => ?_, fun sweep face phase one other => ?_, fun sweep face phase one waits => ?_,
      fun p sweep face one presenting => ?_⟩
    · exact (admitted_auditStop ready stock (byteOf c.val)).completes_of_take_refuse (parse_auditStop c) rfl
        (takeAuditStop_none (s := s.accepted h.port) sweep)
    · refine auditStop_completes ready stock sweep one (faceTest_of_away ?_) ?_
      · rw [unswept_face (s := s.accepted h.port) one]
        exact congrArg (Option.map Presentation.unswept) face
      · show x.stopped (s.busyOn c) = stopped x
        rw [stopped_of_not_waiting other, full]
        simp [face, phase]
    · refine auditStop_completes ready stock sweep one (faceTest_of_away ?_) ?_
      · rw [unswept_face (s := s.accepted h.port) one]
        exact congrArg (Option.map Presentation.unswept) face
      · show x.stopped (s.busyOn c) = { stopped x with
          motion := if ∃ q ∈ x.calls, x.motion.chosen.map Choice.carrier = some q.carrier ∧ kept q = false then
            x.motion.unchosen else x.motion }
        have same : x.stopped (s.busyOn c) = { stopped x with motion := (x.stopped (s.busyOn c)).motion } := by
          rw [Carousel.stopped, full, face, phase]; rfl
        refine same.trans (congrArg (fun m => { stopped x with motion := m }) ?_)
        exact if_congr (and_iff_right waits) rfl rfl
    intro q
    have atFace : x.stopped (s.busyOn c) = { stopped x with
        face := some q, phase := x.phase.map fun f => { f with sweep := false } } := by
      rw [stopped_of_not_waiting (by rw [presenting]; decide), full, face]
      rfl
    refine ⟨fun busy => ?_, fun phase unpresented there audit => ?_⟩
    · refine auditStop_completes ready stock sweep one (faceTest_of_busy ?_) atFace
      rcases busy with phase | ⟨t, y, stands, presented, on⟩
      · refine .inl ?_
        rw [unswept_phase (s := s.accepted h.port) one]
        simpa using phase
      · refine .inr ?_
        rw [presentedOn_of_tasks _ (unswept_tasks (s := s.accepted h.port) one)]
        exact List.ne_nil_of_mem (mem_presentedOn.mpr ⟨show (s.accepted h.port).task (t, y).1 = _ from stands, presented, on⟩)
    · have noneShown : (s.accepted h.port).presentedOn c = [] := by
        refine List.eq_nil_iff_forall_not_mem.mpr fun a mem => ?_
        obtain ⟨stands, presented, on⟩ := mem_presentedOn.mp mem
        exact unpresented a.1 a.2 stands on presented
      have runs := (admitted_auditStop ready stock (byteOf c.val)).exec_eq_take (parse_auditStop c) rfl
      rw [State.take, takeAuditStop_ends (s := s.accepted h.port) one sweep face phase noneShown audit] at runs
      have uncalled := unswept_uncalled (s := s.accepted h.port) one face
      have tombs : ∀ t y, ((s.accepted h.port).unswept c).task t = some y → y.bay.carousel = c → y.state = .cancelled →
          y.bay.carrier = p.unswept.carrier := by
        intro t y stands on cancelled
        rw [State.task, unswept_tasks (s := s.accepted h.port) one] at stands
        exact there t y stands on (by rw [cancelled]; decide)
      have swept := unswept_carousel (s := s.accepted h.port) one
      have carousel (d : CarouselId) := endPresentation_carousel (d := d) (p := p.unswept) uncalled tombs
      have lanes := (endPresentation_lanes (p := p.unswept) uncalled tombs).trans (unswept_lanes (s := s.accepted h.port) one)
      have discs := (endPresentation_discs (p := p.unswept) uncalled tombs).trans (unswept_discs (s := s.accepted h.port) one)
      have port := endPresentation_port (p := p.unswept) uncalled tombs
      have task (t : Ticket) := endPresentation_task (s := (s.accepted h.port).unswept c) (c := c) (p := p.unswept) t
      refine ⟨_, runs, ?_⟩
      have calls : ((s.accepted h.port).unswept c).leftCalls c p.carrier q.deferred false
          = if q.deferred.isSome ∨ s.queuedOn c p.carrier ≠ [] then [⟨p.carrier, s.stamp, 0, q.deferred, false⟩] else [] := by
        rw [State.leftCalls, queuedOn_of_tasks (unswept_tasks (s := s.accepted h.port) one),
          unswept_stamp (s := s.accepted h.port) one]
        rfl
      have own := (carousel c).trans (if_pos rfl)
      have motion : ((s.accepted h.port).unswept c).motion c = x.motion := by
        rw [State.motion, swept, if_pos rfl]
        exact (congrArg Carousel.motion (stopped_of_not_waiting (x := x) (by rw [presenting]; decide)) :)
      generalize ((s.accepted h.port).unswept c).endPresentation c p.unswept = v at *
      refine ⟨fun t => ?_, ?_, ?_, ?_, ?_, ?_, fun d other => ?_, lanes, discs, rfl, fun r => ?_⟩
      · refine (task t).trans ?_
        rw [State.task, unswept_tasks (s := s.accepted h.port) one]
        show (s.task t).filter _ = _
        cases s.task t with
        | none => rfl
        | some y =>
          by_cases on : y.bay.carousel = c <;> by_cases tomb : y.state = .cancelled <;>
            simp [Option.filter_some, Task.tombOn, on, tomb]
      · exact congrArg Carousel.face own
      · refine (congrArg Carousel.phase own).trans ?_
        rw [unswept_phase (s := s.accepted h.port) one]
        exact congrArg _ phase
      · refine (congrArg Carousel.sweep own).trans ?_
        rw [swept, if_pos rfl]; rfl
      · refine (congrArg Carousel.calls own).trans ?_
        rw [swept, if_pos rfl]
        exact congrArg (_ ++ ·) calls
      · refine (congrArg Carousel.motion own).trans ?_
        rw [motion]; rfl
      · refine (carousel d).trans ?_
        rw [if_neg (Ne.symm other), swept, if_neg (Ne.symm other)]; rfl
      · refine respond_portAfter s h .auditStop _ .done [] _ (fun r => ?_) r
        refine (port r).trans ?_
        have ports : ((s.accepted h.port).unswept c).port r = (s.accepted h.port).port r := by
          rw [State.port, unswept_ports (s := s.accepted h.port) one]; rfl
        rw [ports, accepted_port, State.faultPosts, motion, swept, if_pos rfl]
        rfl
  case lapse =>
    intro t
    refine ⟨selectAll_dropLapsed, dropLapsed_same.tasks, dropLapsed_same.calls c, fun gone => ?_, fun k q chosen called able => ?_⟩
    · refine dropLapsed_motion.trans (if_pos ?_)
      simp only [State.lapsed, waits, decide_true, Bool.true_and, Bool.not_eq_true', decide_eq_false_iff_not]
      intro able
      obtain ⟨q, found, able⟩ := Option.map_eq_some_iff.mp able
      obtain ⟨k, chosen, called⟩ := Option.bind_eq_some_iff.mp found
      have own : q.carrier = k.carrier := by simpa using List.find?_some called
      rw [gone q (List.mem_of_find?_eq_some called) (by rw [chosen, Option.map_some, own])] at able
      cases able
    · refine dropLapsed_motion.trans (if_neg ?_)
      simp [State.lapsed, waits, chosen, called, able]

end Stops

end Sys2Proof.Machine

/-! The eligible bays of a line and their order, and what one allocation leaves of them (R64, R65, Table 4-6). -/

namespace Sys2Proof.Machine

section Preference

variable {s t u : State} {r : BayRef} {article w : Nat} {minWeek : Option Nat}

/-! ## The order of the bays -/

/-- The place of a bay in the order of carousel, carrier and bay. -/
def placeOf (q : BayRef) : Nat := (q.carousel.val * 40 + q.carrier.val) * 4 + q.bay.val

theorem baysWhere_pairwise (keep : Carousel → Bool) : (s.baysWhere keep).Pairwise fun a b => placeOf a < placeOf b := by
  have inUse (c : CarouselId) (n : Nat) : (baysInUse c n).Pairwise fun a b => placeOf a < placeOf b := by
    refine List.pairwise_flatMap.mpr ⟨fun k _ => List.pairwise_map.mpr ?_, List.Pairwise.filter _ ?_⟩
    · exact (List.pairwise_lt_finRange 4).imp fun lt => by simp only [placeOf]; omega
    · refine (List.pairwise_lt_finRange 40).imp fun lt x there y there' => ?_
      obtain ⟨b, _, rfl⟩ := List.mem_map.mp there
      obtain ⟨b', _, rfl⟩ := List.mem_map.mp there'
      simp only [placeOf]
      omega
  refine List.pairwise_flatMap.mpr ⟨fun c _ => ?_, (List.pairwise_lt_finRange 6).imp fun lt x there y there' => ?_⟩
  · split
    · exact inUse _ _
    · exact .nil
  · have on {c : CarouselId} {z : BayRef}
        (mem : z ∈ if keep (s.carousel c) = true then baysInUse c (s.carousel c).cfg.n else []) : z.carousel = c := by
      split at mem
      · obtain ⟨_, _, mem⟩ := List.mem_flatMap.mp mem
        obtain ⟨_, _, rfl⟩ := List.mem_map.mp mem
        rfl
      · cases mem
    rw [← on there, ← on there'] at lt
    simp only [placeOf]
    omega

/-! ## Preference (Table 4-6) -/

/-- Keys 1 and 2 of Table 4-6: near the face first, then the most free tyres. -/
def State.preferenceKey (s : State) (q : BayRef) : ℕ ×ₗ ℕᵒᵈ :=
  toLex (if s.nearFace q then 0 else 1, OrderDual.toDual (s.bay q).free)

theorem preferred_iff (a b : BayRef) : s.preferred a b = true ↔ s.preferenceKey a < s.preferenceKey b := by
  rw [State.preferred, State.preferenceKey, State.preferenceKey, Prod.Lex.toLex_lt_toLex]
  cases s.nearFace a <;> cases s.nearFace b <;> simp

theorem best?_preferred {l : List BayRef} (chosen : best? s.preferred l = some r) :
    r ∈ l ∧ ∀ q ∈ l, s.preferred q r = false := by
  refine ⟨best?_mem chosen, fun q mem => ?_⟩
  have least := best?_key_le (key := s.preferenceKey) (fun a _ b _ lt => (preferred_iff a b).mpr lt)
    (fun a _ b _ better => ((preferred_iff a b).mp better).le) chosen q mem
  rw [← Bool.not_eq_true, preferred_iff]
  exact not_lt.mpr least

theorem best?_preferred_first {l : List BayRef} (order : l.Pairwise fun a b => placeOf a < placeOf b)
    (chosen : best? s.preferred l = some r) :
    ∀ q ∈ l, s.preferred r q = true ∨ placeOf r ≤ placeOf q := by
  obtain ⟨before, after, rfl, first, _⟩ := best?_split (key := s.preferenceKey) (fun a _ b _ => preferred_iff a b) chosen
  intro q mem
  rcases List.mem_append.mp mem with mem | mem
  · exact .inl ((preferred_iff r q).mpr (first q mem))
  · rcases List.mem_cons.mp mem with rfl | mem
    · exact .inr le_rfl
    · exact .inr ((List.pairwise_cons.mp (List.pairwise_append.mp order).2.1).1 q mem).le

/-! ## Eligible bays (R64) -/

theorem mem_eligibleBays {q : BayRef} :
    (w, q) ∈ s.eligibleBays article minWeek ↔ s.bayEligible article minWeek q = true ∧ s.weekOf q = w
      ∧ q.carrier.val < (s.carousel q.carousel).cfg.n ∧ (s.motion q.carousel).state.inService = true := by
  simp only [State.eligibleBays, List.mem_map, List.mem_filter, mem_baysWhere, Prod.mk.injEq]
  constructor
  · rintro ⟨q', ⟨⟨serves, used⟩, able⟩, week, rfl⟩
    exact ⟨able, week, used, serves⟩
  · rintro ⟨able, week, used, serves⟩
    exact ⟨q, ⟨⟨serves, used⟩, able⟩, week, rfl⟩

theorem bayEligible_iff {q : BayRef} :
    s.bayEligible article minWeek q = true ↔ ∃ lot, (s.bay q).lot = some lot ∧ lot.article = article
      ∧ minWeek.getD 0 ≤ lot.week ∧ (s.bay q).disputed = false ∧ 0 < (s.bay q).free := by
  rw [State.bayEligible]
  cases lot : (s.bay q).lot <;> simp [and_assoc]

theorem mem_ofWeek {l : List (Nat × BayRef)} {q : BayRef} : q ∈ ofWeek w l ↔ (w, q) ∈ l := by
  simp only [ofWeek, List.mem_map, List.mem_filter, decide_eq_true_eq]
  constructor
  · rintro ⟨⟨_, _⟩, ⟨mem, rfl⟩, rfl⟩; exact mem
  · exact fun mem => ⟨(w, q), ⟨mem, rfl⟩, rfl⟩

theorem ofWeek_eligibleBays : ofWeek w (s.eligibleBays article minWeek)
    = (s.baysWhere fun x => x.motion.state.inService).filter fun q => s.bayEligible article minWeek q && decide (s.weekOf q = w) := by
  rw [ofWeek, State.eligibleBays, List.filter_map, List.map_map, List.filter_filter]
  refine (List.map_id _).trans (List.filter_congr fun q _ => ?_)
  exact Bool.and_comm ..

theorem ofWeek_pairwise : (ofWeek w (s.eligibleBays article minWeek)).Pairwise fun a b => placeOf a < placeOf b := by
  rw [ofWeek_eligibleBays]
  exact (baysWhere_pairwise _).filter _

theorem ofWeek_nodup : (ofWeek w (s.eligibleBays article minWeek)).Nodup :=
  ofWeek_pairwise.imp fun lt e => by subst e; exact lt_irrefl _ lt

theorem eligibleBays_of_carousels (same : t.carousels = s.carousels) : t.eligibleBays = s.eligibleBays := by
  have carousel (c : CarouselId) : t.carousel c = s.carousel c := congrArg (look · c) same
  have bay (q : BayRef) : t.bay q = s.bay q := by rw [bay_eq, carousel]; rfl
  funext article minWeek
  have able : t.bayEligible article minWeek = s.bayEligible article minWeek := by
    funext q; rw [State.bayEligible, State.bayEligible, bay]
  simp only [State.eligibleBays, State.baysWhere, able, carousel, bay]

/-! ## What allocations leave of the bays -/

/-- Tyres of some bays became reserved, `given` of each, and nothing else that makes a bay eligible. -/
structure Reserves (s t : State) (given : BayRef → Nat) : Prop where
  bay : ∀ q, t.bay q = { s.bay q with reserved := (s.bay q).reserved + given q }
  cfg : ∀ c, (t.carousel c).cfg = (s.carousel c).cfg
  motion : ∀ c, t.motion c = s.motion c

namespace Reserves

variable {given more : BayRef → Nat}

theorem of_carousels (same : t.carousels = s.carousels) : Reserves s t fun _ => 0 := by
  have carousel (c : CarouselId) : t.carousel c = s.carousel c := congrArg (look · c) same
  exact ⟨fun q => by rw [bay_eq, carousel]; rfl, fun c => by rw [carousel], fun c => congrArg Carousel.motion (carousel c)⟩

theorem trans (h : Reserves s t given) (h' : Reserves t u more) : Reserves s u fun q => given q + more q :=
  ⟨fun q => by rw [h'.bay, h.bay]; simp [Nat.add_assoc], fun c => (h'.cfg c).trans (h.cfg c), fun c => (h'.motion c).trans (h.motion c)⟩

theorem free (h : Reserves s t given) (q : BayRef) : (t.bay q).free = (s.bay q).free - given q := by
  rw [h.bay, Bay.free, Bay.free, Nat.sub_add_eq]

theorem bayEligible (h : Reserves s t given) (q : BayRef) :
    t.bayEligible article minWeek q = (s.bayEligible article minWeek q && decide (given q < (s.bay q).free)) := by
  rw [Bool.eq_iff_iff, Bool.and_eq_true, bayEligible_iff, bayEligible_iff, decide_eq_true_eq, h.free, h.bay]
  constructor
  · rintro ⟨lot, holds, art, week, clear, free⟩
    exact ⟨⟨lot, holds, art, week, clear, by omega⟩, by omega⟩
  · rintro ⟨⟨lot, holds, art, week, clear, _⟩, free⟩
    exact ⟨lot, holds, art, week, clear, by omega⟩

/-- A bay stays eligible while it has tyres left. -/
theorem ofWeek_eligible (h : Reserves s t given) :
    ofWeek w (t.eligibleBays article minWeek)
      = (ofWeek w (s.eligibleBays article minWeek)).filter fun q => given q < (s.bay q).free := by
  have bays : (t.baysWhere fun x => x.motion.state.inService) = s.baysWhere fun x => x.motion.state.inService := by
    have state (c : CarouselId) : (t.carousel c).motion = (s.carousel c).motion := h.motion c
    simp only [State.baysWhere, h.cfg, state]
  have week (q : BayRef) : t.weekOf q = s.weekOf q := by rw [State.weekOf, h.bay]; rfl
  rw [ofWeek_eligibleBays, ofWeek_eligibleBays, bays, List.filter_filter]
  refine List.filter_congr fun q _ => ?_
  rw [h.bayEligible, week]
  cases s.bayEligible article minWeek q <;> simp [Bool.and_comm]

end Reserves

/-! ## One allocation -/

section One

variable {a : Nat} {l : LaneId} {i : Nat} {set : Option Nat} {urgent : Bool}

theorem reserves_of_allocated {y v : State} {work : PickWork} (h : Allocated s r a work y)
    (calls : ∀ c, y.carousel c = { v.carousel c with calls := (y.carousel c).calls })
    (carousels : v.carousels = (s.changeBay r (reserving a)).carousels) :
    Reserves s y fun q => if q = r then a else 0 := by
  have carousel (c : CarouselId) : v.carousel c = (s.changeBay r (reserving a)).carousel c := congrArg (look · c) carousels
  refine ⟨fun q => ?_, fun c => ?_, fun c => ?_⟩
  · rw [h.bay]
    by_cases own : q = r
    · subst own; simp
    · simp [own]
  · rw [calls, carousel]; exact (changeBay_rest s r _ c).2.1
  · rw [State.motion, calls, carousel]; exact (changeBay_rest s r _ c).1

theorem allocateTo_some {y : State} (some_ : 1 ≤ a) (given : s.allocateTo r a l i set urgent = some y) :
    Allocated s r a ⟨l, i, set, urgent⟩ y ∧ Reserves s y fun q => if q = r then a else 0 := by
  cases oldest : oldestTask? (s.growable r l i set) with
  | some p =>
    obtain ⟨t, x⟩ := p
    rw [allocateTo_grows oldest] at given
    obtain rfl := Option.some.inj given
    have joins := joins_joinPlanner (i := t) (grown_task (s := s) (r := r) (a := a) ⟨l, i, set, urgent⟩ t x t |>.trans (if_pos rfl))
    have done := (grown_allocated (s := s) (r := r) ⟨l, i, set, urgent⟩ t x some_).joins joins
    exact ⟨done, reserves_of_allocated done joins.carousel rfl⟩
  | none =>
    cases free : s.freeTicket? with
    | none => rw [allocateTo_starves oldest free] at given; exact (Option.some_ne_none _ given.symm).elim
    | some t =>
      rw [allocateTo_creates oldest free] at given
      obtain rfl := Option.some.inj given
      have tasks := created_task (s := s) (r := r) (a := a) ⟨l, i, set, urgent⟩ t
      have carousels : (s.created r a ⟨l, i, set, urgent⟩ t).carousels = (s.changeBay r (reserving a)).carousels := rfl
      have joins := joins_joinPlanner ((tasks t).trans (if_pos rfl))
      have done := (created_allocated (s := s) (r := r) ⟨l, i, set, urgent⟩ t some_).joins joins
      exact ⟨done, reserves_of_allocated done joins.carousel carousels⟩

theorem allocateTo_none (none_ : s.allocateTo r a l i set urgent = none) : s.freeTicket? = none := by
  cases oldest : oldestTask? (s.growable r l i set) with
  | some p => rw [allocateTo_grows oldest] at none_; exact (Option.some_ne_none _ none_).elim
  | none =>
    cases free : s.freeTicket? with
    | none => rfl
    | some t => rw [allocateTo_creates oldest free] at none_; exact (Option.some_ne_none _ none_).elim

theorem Allocated.line? {y : State} (h : Allocated s r a ⟨l, i, set, urgent⟩ y) :
    y.line? l i = (s.line? l i).map (Line.modTyres set (Counters.allocate a)) := by
  have lane : y.lane l = (s.modLine l i (Line.modTyres set (Counters.allocate a))).lane l := h.lane
  rw [← line?_modLine, State.line?, lane]; rfl

end One

end Preference

end Sys2Proof.Machine

/-! An unmatched line in the allocation pass (R65, R60). -/

namespace Sys2Proof.Machine

section Unmatched

variable {s t u : State} {r : BayRef} {article w fuel : Nat} {minWeek : Option Nat} {l : LaneId} {i : Nat} {line : Line}
  {urgent : Bool} {n : Counters}

/-! ## The bay that is served next -/

/-- The most preferred eligible bay of the oldest week (R65). -/
def State.bayFor (s : State) (article : Nat) (minWeek : Option Nat) : Option BayRef :=
  (oldest? ((s.eligibleBays article minWeek).map Prod.fst)).bind fun w =>
    best? s.preferred (ofWeek w (s.eligibleBays article minWeek))

theorem oldest?_some {weeks : List Nat} (oldest : oldest? weeks = some w) : w ∈ weeks ∧ ∀ w' ∈ weeks, w ≤ w' :=
  ⟨best?_mem oldest, best?_key_le (key := id) (fun _ _ _ _ lt => decide_eq_true lt)
    (fun _ _ _ _ lt => (of_decide_eq_true lt).le) oldest⟩

theorem bayFor_none : s.bayFor article minWeek = none ↔ s.eligibleBays article minWeek = [] := by
  constructor
  · intro none_
    cases oldest : oldest? ((s.eligibleBays article minWeek).map Prod.fst) with
    | none => exact List.map_eq_nil_iff.mp (best?_eq_none.mp oldest)
    | some w =>
      rw [State.bayFor, oldest, Option.bind_some, best?_eq_none] at none_
      obtain ⟨⟨_, q⟩, mem, rfl⟩ := List.mem_map.mp (oldest?_some oldest).1
      exact (List.not_mem_nil (none_ ▸ mem_ofWeek.mpr mem)).elim
  · intro none_
    rw [State.bayFor, none_]; rfl

theorem bayFor_some (found : s.bayFor article minWeek = some r) :
    ∃ w, (w, r) ∈ s.eligibleBays article minWeek ∧ (∀ p ∈ s.eligibleBays article minWeek, w ≤ p.1)
      ∧ ∀ p ∈ s.eligibleBays article minWeek, p.1 = w →
        s.preferred p.2 r = false ∧ (s.preferred r p.2 = true ∨ placeOf r ≤ placeOf p.2) := by
  obtain ⟨w, oldest, best⟩ := Option.bind_eq_some_iff.mp found
  obtain ⟨mem, least⟩ := best?_preferred best
  refine ⟨w, mem_ofWeek.mp mem, fun p there => (oldest?_some oldest).2 _ (List.mem_map_of_mem there), ?_⟩
  rintro ⟨_, q⟩ there rfl
  have inWeek := mem_ofWeek.mpr there
  exact ⟨least q inWeek, best?_preferred_first ofWeek_pairwise best q inWeek⟩

theorem bayFor_free (found : s.bayFor article minWeek = some r) : 0 < (s.bay r).free := by
  obtain ⟨w, mem, _⟩ := bayFor_some found
  obtain ⟨_, _, _, _, _, free⟩ := bayEligible_iff.mp (mem_eligibleBays.mp mem).1
  exact free

/-! ## The rounds of a line -/

theorem allocUnmatched_succ (here : s.line? l i = some line) (tyres : line.tyres = n) (open_ : 0 < n.openTyres) :
    State.allocUnmatched l i urgent (fuel + 1) s
      = match s.bayFor line.article line.minWeek with
        | none => ⟨s, false⟩
        | some r => match s.allocateTo r (min (s.bay r).free n.openTyres) l i none urgent with
          | none => ⟨s, true⟩
          | some t => State.allocUnmatched l i urgent fuel t := by
  simp only [State.allocUnmatched, here, tyres, if_neg (Nat.pos_iff_ne_zero.mp open_)] <;> rfl

theorem allocUnmatched_done (here : s.line? l i = some line) (none_ : line.tyres.openTyres = 0) :
    State.allocUnmatched l i urgent fuel s = ⟨s, false⟩ := by
  cases fuel with
  | zero => rfl
  | succ fuel => simp only [State.allocUnmatched, here, if_pos none_]

/-- What the rounds of an unmatched line leave of it: tyres went from open to allocated until none is open, no bay is
eligible, or no place is free. -/
structure Served (line : Line) (n : Counters) (l : LaneId) (i : Nat) (v : Visit) (m : Counters) : Prop where
  left : v.state.line? l i = some { line with body := .unmatched m }
  total : m.openTyres + m.allocated = n.openTyres + n.allocated
  grows : n.allocated ≤ m.allocated
  done : v.stopped = false → m.openTyres = 0 ∨ v.state.eligibleBays line.article line.minWeek = []
  starved : v.stopped = true → 0 < m.openTyres ∧ v.state.freeTicket? = none

theorem allocUnmatched_serves (here : s.line? l i = some { line with body := .unmatched n }) (enough : n.openTyres ≤ fuel) :
    ∃ m, Served line n l i (State.allocUnmatched l i urgent fuel s) m := by
  induction fuel generalizing s n with
  | zero => exact ⟨n, here, rfl, le_rfl, fun _ => .inl (by omega), fun stop => by cases stop⟩
  | succ fuel ih =>
    by_cases none_ : n.openTyres = 0
    · rw [allocUnmatched_done here none_]
      exact ⟨n, here, rfl, le_rfl, fun _ => .inl none_, fun stop => by cases stop⟩
    · have open_ : 0 < n.openTyres := Nat.pos_of_ne_zero none_
      rw [allocUnmatched_succ (n := n) here rfl open_]
      dsimp only
      cases found : s.bayFor line.article line.minWeek with
      | none => exact ⟨n, here, rfl, le_rfl, fun _ => .inr (bayFor_none.mp found), fun stop => by cases stop⟩
      | some r =>
        have free := bayFor_free found
        dsimp only
        cases given : s.allocateTo r (min (s.bay r).free n.openTyres) l i none urgent with
        | none => exact ⟨n, here, rfl, le_rfl, (fun stop => by cases stop), fun _ => ⟨open_, allocateTo_none given⟩⟩
        | some y =>
          obtain ⟨done, _⟩ := allocateTo_some (le_min free open_) given
          have next : y.line? l i = some { line with
              body := .unmatched (Counters.allocate (min (s.bay r).free n.openTyres) n) } := by rw [done.line?, here]; rfl
          obtain ⟨m, served⟩ := ih next (by simp only [Counters.allocate]; omega)
          refine ⟨m, served.left, ?_, ?_, served.done, served.starved⟩
          · have := served.total
            simp only [Counters.allocate] at this
            omega
          · have := served.grows
            simp only [Counters.allocate] at this
            omega

/-! ## WAITING (R60) -/

theorem markWaiting_line (here : s.line? l i = some line) :
    (s.markWaiting l i).line? l i = some { line with waiting := decide (0 < line.tyres.openTyres) } := by
  simp only [State.markWaiting, here]
  by_cases none_ : line.tyres.openTyres = 0
  · rw [if_pos none_, line?_modLine, here]; simp [none_]
  · rw [if_neg none_]
    have open_ : 0 < line.tyres.openTyres := Nat.pos_of_ne_zero none_
    split
    · next waits => rw [here]; simp [open_, ← waits]
    · have posted (v : State) (p : PortId) (x : Notice) : (v.post p x).line? l i = v.line? l i := by
        rw [State.line?, post_lane]; rfl
      rw [posted, line?_modLine, here]; simp [open_]

theorem markWaiting_eligibleBays : (s.markWaiting l i).eligibleBays = s.eligibleBays := by
  refine eligibleBays_of_carousels ?_
  unfold State.markWaiting
  split
  · rfl
  · split
    · rfl
    · split <;> rfl

theorem allocLine_unmatched (here : s.line? l i = some line) (unmatched : line.body = .unmatched n) (open_ : 0 < n.openTyres) :
    ∃ m urgent, Served line n l i (State.allocUnmatched l i urgent n.openTyres s) m
      ∧ s.allocLine l i = if (State.allocUnmatched l i urgent n.openTyres s).stopped then
          State.allocUnmatched l i urgent n.openTyres s
        else ⟨(State.allocUnmatched l i urgent n.openTyres s).state.markWaiting l i, false⟩ := by
  have tyres : line.tyres = n := by rw [Line.tyres, unmatched]
  have same : line = { line with body := .unmatched n } := by rw [← unmatched]
  obtain ⟨m, served⟩ := allocUnmatched_serves (urgent := ((s.lane l).order.map Order.urgent).getD false)
    (fuel := n.openTyres) (here.trans (congrArg some same)) le_rfl
  refine ⟨m, _, served, ?_⟩
  simp only [State.allocLine, here, unmatched, tyres, if_neg (Nat.pos_iff_ne_zero.mp open_)]

end Unmatched

end Sys2Proof.Machine

/-! A set in the allocation pass (R66, R67). -/

namespace Sys2Proof.Machine

section Sets

variable {s t u : State} {r : BayRef} {article w fuel lacking need a total : Nat} {minWeek : Option Nat} {l m : LaneId} {i j : Nat}
  {line : Line} {urgent : Bool} {x : SetRecord} {given : BayRef → Nat} {bays : List BayRef}

/-! ## Sums over the bays of a week -/

theorem sum_map_add_at (nodup : bays.Nodup) (mem : r ∈ bays) :
    (bays.map fun q => given q + if q = r then a else 0).sum = (bays.map given).sum + a := by
  have at_ (l : List BayRef) : (l.map fun q => if q = r then a else 0).sum = l.count r * a := by
    induction l with
    | nil => simp
    | cons q rest ih =>
      rw [List.map_cons, List.sum_cons, ih, List.count_cons]
      by_cases own : q = r
      · simp [own, Nat.add_mul, Nat.add_comm]
      · simp [own]
  rw [List.sum_map_add, at_, List.count_eq_one_of_mem nodup mem, Nat.one_mul]

theorem sum_map_lt {f g : BayRef → Nat} (le : ∀ q ∈ bays, f q ≤ g q) (lt : (bays.map f).sum < (bays.map g).sum) :
    ∃ q ∈ bays, f q < g q := by
  by_contra none_
  push Not at none_
  have same : bays.map f = bays.map g := List.map_congr_left fun q mem => le_antisymm (le q mem) (none_ q mem)
  rw [same] at lt
  exact lt_irrefl _ lt

theorem freeTotal_eq (bays : List BayRef) : s.freeTotal bays = (bays.map fun q => (s.bay q).free).sum := by
  rw [State.freeTotal, List.sum_eq_foldl, List.foldl_map]

/-! ## A set filled from the bays of its week (R66) -/

/-- From `s` to `t` a set took tyres of the bays of its week, `given` of each and `total` together. -/
structure Fills (s : State) (bays : List BayRef) (x : SetRecord) (l : LaneId) (i j : Nat) (given : BayRef → Nat) (total : Nat)
    (t : State) : Prop where
  reserves : Reserves s t given
  within : ∀ q, given q ≤ (s.bay q).free
  only : ∀ q, 0 < given q → q ∈ bays
  sum : (bays.map given).sum = total
  record : ∃ y, t.line? l i = some y ∧ y.sets[j]? = some { x with
    tyres := { x.tyres with openTyres := x.tyres.openTyres - total, allocated := x.tyres.allocated + total } }
  others : ∀ m, m ≠ l → t.lane m = s.lane m

theorem Fills.more (h : Fills s bays x l i j given total t) (nodup : bays.Nodup) (mem : r ∈ bays) (some_ : 1 ≤ a)
    (left : given r + a ≤ (s.bay r).free) (more : t.allocateTo r a l i (some j) urgent = some u) :
    Fills s bays x l i j (fun q => given q + if q = r then a else 0) (total + a) u := by
  obtain ⟨done, reserves⟩ := allocateTo_some some_ more
  refine ⟨h.reserves.trans reserves, fun q => ?_, fun q pos => ?_, ?_, ?_, fun m other => (done.others m other).trans (h.others m other)⟩
  · by_cases own : q = r
    · subst own; simpa using left
    · simpa [own] using h.within q
  · by_cases own : q = r
    · subst own; exact mem
    · exact h.only q (by simpa [own] using pos)
  · rw [sum_map_add_at nodup mem, h.sum]
  · obtain ⟨y, here, inSet⟩ := h.record
    refine ⟨_, by rw [done.line?, here]; rfl, ?_⟩
    rw [sets_modTyres, inSet]
    simp [Counters.allocate, Nat.sub_sub, Nat.add_assoc]

theorem preferred_of_carousels (same : t.carousels = s.carousels) : t.preferred = s.preferred := by
  have carousel (c : CarouselId) : t.carousel c = s.carousel c := congrArg (look · c) same
  have bay (q : BayRef) : t.bay q = s.bay q := by rw [bay_eq, carousel]; rfl
  have near : t.nearFace = s.nearFace := by funext q; rw [State.nearFace, carousel]; rfl
  funext p q
  simp only [State.preferred, near, bay]

theorem fillSet_zero : State.fillSet l i j line urgent w fuel 0 t = some t := by cases fuel <;> rfl

theorem fillSet_succ (open_ : 0 < lacking) :
    State.fillSet l i j line urgent w (fuel + 1) lacking t
      = match best? t.preferred (ofWeek w (t.eligibleBays line.article line.minWeek)) with
        | none => some t
        | some r => match t.allocateTo r (min (t.bay r).free lacking) l i (some j) urgent with
          | none => none
          | some u => State.fillSet l i j line urgent w fuel (lacking - min (t.bay r).free lacking) u := by
  simp only [State.fillSet, if_neg (Nat.pos_iff_ne_zero.mp open_)] <;> rfl

/-- A bay gives some of its tyres and keeps some. -/
def partly (s : State) (given : BayRef → Nat) (q : BayRef) : Prop := 0 < given q ∧ given q < (s.bay q).free

/-- The rounds of a set: every bay but the last gives all it has. -/
theorem fillSet_fills (filled : Fills s (ofWeek w (s.eligibleBays line.article line.minWeek)) x l i j given total t)
    (whole : ∀ q, ¬ partly s given q) (enough : lacking ≤ fuel)
    (held : total + lacking ≤ ((ofWeek w (s.eligibleBays line.article line.minWeek)).map fun q => (s.bay q).free).sum)
    (runs : State.fillSet l i j line urgent w fuel lacking t = some u) :
    ∃ given', Fills s (ofWeek w (s.eligibleBays line.article line.minWeek)) x l i j given' (total + lacking) u
      ∧ (∀ q, given q ≤ given' q) ∧ ∀ p q, partly s given' p → partly s given' q → p = q := by
  induction fuel generalizing given total lacking t with
  | zero =>
    obtain rfl : lacking = 0 := by omega
    obtain rfl := Option.some.inj (fillSet_zero.symm.trans runs)
    exact ⟨given, filled, fun _ => le_rfl, fun p _ some_ => (whole p some_).elim⟩
  | succ fuel ih =>
    rcases Nat.eq_zero_or_pos lacking with rfl | open_
    · obtain rfl := Option.some.inj (fillSet_zero.symm.trans runs)
      exact ⟨given, filled, fun _ => le_rfl, fun p _ some_ => (whole p some_).elim⟩
    · rw [fillSet_succ open_, filled.reserves.ofWeek_eligible] at runs
      cases best : best? t.preferred ((ofWeek w (s.eligibleBays line.article line.minWeek)).filter fun q => given q < (s.bay q).free) with
      | none =>
        have empty := best?_eq_none.mp best
        obtain ⟨q, mem, less⟩ := sum_map_lt (fun q _ => filled.within q)
          (lt_of_lt_of_le (by rw [filled.sum]; omega : _ < total + lacking) held)
        exact (List.not_mem_nil (empty ▸ List.mem_filter.mpr ⟨mem, decide_eq_true less⟩)).elim
      | some r =>
        obtain ⟨mem, less⟩ := List.mem_filter.mp (best?_mem best)
        have less : given r < (s.bay r).free := of_decide_eq_true less
        have fresh : given r = 0 := by
          by_contra some_
          exact whole r ⟨Nat.pos_of_ne_zero some_, less⟩
        have free : (t.bay r).free = (s.bay r).free := by rw [filled.reserves.free, fresh, Nat.sub_zero]
        rw [best] at runs
        dsimp only at runs
        rw [free] at runs
        cases gave : t.allocateTo r (min (s.bay r).free lacking) l i (some j) urgent with
        | none => rw [gave] at runs; cases runs
        | some v =>
          rw [gave] at runs
          dsimp only at runs
          have next := filled.more ofWeek_nodup mem (a := min (s.bay r).free lacking) (by omega) (by omega) gave
          rcases le_or_gt (s.bay r).free lacking with all | rest
          · have took : min (s.bay r).free lacking = (s.bay r).free := min_eq_left all
            rw [took] at runs next
            obtain ⟨given', fills, grows, one⟩ := ih next (fun q part => by
              by_cases own : q = r
              · subst own; simp [partly, fresh] at part
              · exact whole q (by simpa [partly, own] using part)) (by omega) (by omega) runs
            refine ⟨given', ?_, fun q => le_trans (Nat.le_add_right _ _) (grows q), one⟩
            rwa [show total + lacking = total + (s.bay r).free + (lacking - (s.bay r).free) by omega]
          · have took : min (s.bay r).free lacking = lacking := min_eq_right rest.le
            rw [took, Nat.sub_self] at runs
            rw [took] at next
            obtain rfl := Option.some.inj (fillSet_zero.symm.trans runs)
            refine ⟨_, next, fun q => Nat.le_add_right _ _, fun p q partP partQ => ?_⟩
            have only {z : BayRef} (part : partly s (fun q => given q + if q = r then lacking else 0) z) : z = r := by
              by_contra own
              exact whole z (by simpa [partly, own] using part)
            rw [only partP, only partQ]

/-! ## A set covered from one week (R66, R67) -/

theorem coverSet_modLine (f : Line → Line) :
    (s.modLine l i f).coverSet l i j line urgent w need
      = match best? s.preferred ((ofWeek w (s.eligibleBays line.article line.minWeek)).filter fun q => (s.bay q).free ≥ need) with
        | some r => (s.modLine l i f).allocateTo r need l i (some j) urgent
        | none => State.fillSet l i j line urgent w need need (s.modLine l i f) := by
  have carousels : (s.modLine l i f).carousels = s.carousels := rfl
  simp only [State.coverSet, eligibleBays_of_carousels carousels, preferred_of_carousels carousels] <;> rfl

theorem weekFor_bound (bound : x.week = some w) :
    s.weekFor line x = if x.tyres.openTyres ≤ ((ofWeek w (s.eligibleBays line.article line.minWeek)).map fun q => (s.bay q).free).sum
      then some w else none := by
  simp only [State.weekFor, bound, freeTotal_eq, decide_eq_true_eq, ge_iff_le]

theorem weekFor_unbound (unbound : x.week = none) :
    s.weekFor line x = oldest? (((s.eligibleBays line.article line.minWeek).map Prod.fst).filter fun w =>
      x.tyres.openTyres ≤ ((ofWeek w (s.eligibleBays line.article line.minWeek)).map fun q => (s.bay q).free).sum) := by
  simp only [State.weekFor, unbound, freeTotal_eq, ge_iff_le]

/-- The set as it stands while it is covered. -/
def State.boundTo (s : State) (l : LaneId) (i j w : Nat) : State :=
  s.modLine l i fun y => y.modSet j fun z => { z with week := some w }

theorem allocSet_none (open_ : 0 < x.tyres.openTyres) (none_ : s.weekFor line x = none) :
    s.allocSet l i j line urgent x = ⟨s, false⟩ := by
  simp only [State.allocSet, if_neg (Nat.pos_iff_ne_zero.mp open_), none_]

theorem allocSet_some (open_ : 0 < x.tyres.openTyres) (found : s.weekFor line x = some w) :
    s.allocSet l i j line urgent x
      = match (s.boundTo l i j w).coverSet l i j line urgent w x.tyres.openTyres with
        | none => ⟨s, true⟩
        | some t => ⟨t, false⟩ := by
  simp only [State.allocSet, if_neg (Nat.pos_iff_ne_zero.mp open_), found] <;> rfl

theorem allocSet_stopped (stopped : (s.allocSet l i j line urgent x).stopped = true) : (s.allocSet l i j line urgent x).state = s := by
  rcases Nat.eq_zero_or_pos x.tyres.openTyres with none_ | open_
  · rw [State.allocSet, if_pos none_]
  · cases found : s.weekFor line x with
    | none => rw [allocSet_none open_ found]
    | some w =>
      rw [allocSet_some open_ found] at stopped ⊢
      generalize (s.boundTo l i j w).coverSet l i j line urgent w x.tyres.openTyres = covered at stopped ⊢
      cases covered with
      | none => rfl
      | some t => cases stopped

theorem sets_modSet (f : SetRecord → SetRecord) (y : Line) : (y.modSet j f).sets[j]? = y.sets[j]?.map f := by
  obtain ⟨_, _, _, _, _, body⟩ := y
  cases body with
  | unmatched => rfl
  | matched sets => exact List.getElem?_modify_eq ..

theorem boundTo_fills (here : s.line? l i = some line) (inSet : line.sets[j]? = some x) :
    Fills s bays { x with week := some w } l i j (fun _ => 0) 0 (s.boundTo l i j w) := by
  refine ⟨.of_carousels rfl, fun _ => Nat.zero_le _, fun q pos => (lt_irrefl _ pos).elim, by simp, ?_,
    fun m other => modLine_lane_ne _ other⟩
  refine ⟨_, (line?_modLine _).trans (congrArg _ here), ?_⟩
  rw [sets_modSet, inSet]; rfl

/-- What covers a set: one bay that has enough, else the most preferred gives all it has and at most one gives less. -/
def Covers (s : State) (bays : List BayRef) (need : Nat) (given : BayRef → Nat) : Prop :=
  ∃ r ∈ bays, if ∃ q ∈ bays, need ≤ (s.bay q).free then
      given r = need ∧ need ≤ (s.bay r).free ∧ ∀ q ∈ bays, need ≤ (s.bay q).free → s.preferred q r = false
    else given r = (s.bay r).free ∧ (∀ q ∈ bays, s.preferred q r = false) ∧ ∀ p q, partly s given p → partly s given q → p = q

theorem coverSet_covers (here : s.line? l i = some line) (inSet : line.sets[j]? = some x) (open_ : 0 < need)
    (held : need ≤ ((ofWeek w (s.eligibleBays line.article line.minWeek)).map fun q => (s.bay q).free).sum)
    (covered : (s.boundTo l i j w).coverSet l i j line urgent w need = some t) :
    ∃ given, Fills s (ofWeek w (s.eligibleBays line.article line.minWeek)) { x with week := some w } l i j given need t
      ∧ Covers s (ofWeek w (s.eligibleBays line.article line.minWeek)) need given := by
  have start := boundTo_fills (bays := ofWeek w (s.eligibleBays line.article line.minWeek)) (w := w) here inSet
  rw [State.boundTo, coverSet_modLine, ← State.boundTo] at covered
  cases best : best? s.preferred ((ofWeek w (s.eligibleBays line.article line.minWeek)).filter fun q => (s.bay q).free ≥ need) with
  | some r =>
    obtain ⟨mem, least⟩ := best?_preferred best
    obtain ⟨mem, enough⟩ := List.mem_filter.mp mem
    have enough : need ≤ (s.bay r).free := of_decide_eq_true enough
    rw [best] at covered
    have fills := start.more ofWeek_nodup mem open_ (by omega) covered
    rw [Nat.zero_add] at fills
    refine ⟨_, fills, r, mem, ?_⟩
    rw [if_pos ⟨r, mem, enough⟩]
    exact ⟨by simp, enough, fun q there has => least q (List.mem_filter.mpr ⟨there, decide_eq_true has⟩)⟩
  | none =>
    have short (q : BayRef) (mem : q ∈ ofWeek w (s.eligibleBays line.article line.minWeek)) : (s.bay q).free < need := by
      by_contra has
      exact List.not_mem_nil (best?_eq_none.mp best ▸ List.mem_filter.mpr ⟨mem, decide_eq_true (not_lt.mp has)⟩)
    rw [best] at covered
    dsimp only at covered
    obtain ⟨fuel, rfl⟩ := Nat.exists_eq_add_of_lt open_
    rw [Nat.zero_add, fillSet_succ (Nat.succ_pos _), start.reserves.ofWeek_eligible,
      preferred_of_carousels (s := s) (t := s.boundTo l i j w) rfl] at covered
    have listed : (ofWeek w (s.eligibleBays line.article line.minWeek)).filter (fun q => decide (0 < (s.bay q).free))
        = ofWeek w (s.eligibleBays line.article line.minWeek) := by
      refine List.filter_eq_self.mpr fun q mem => decide_eq_true ?_
      obtain ⟨_, _, _, _, _, free⟩ := bayEligible_iff.mp (mem_eligibleBays.mp (mem_ofWeek.mp mem)).1
      exact free
    rw [listed] at covered
    cases first : best? s.preferred (ofWeek w (s.eligibleBays line.article line.minWeek)) with
    | none =>
      rw [best?_eq_none.mp first] at held
      exact absurd held (by simp)
    | some r =>
      obtain ⟨mem, least⟩ := best?_preferred first
      have less := short r mem
      have free : ((s.boundTo l i j w).bay r).free = (s.bay r).free := rfl
      rw [first] at covered
      dsimp only at covered
      rw [free, min_eq_left (by omega)] at covered
      cases gave : (s.boundTo l i j w).allocateTo r (s.bay r).free l i (some j) urgent with
      | none => rw [gave] at covered; cases covered
      | some v =>
        rw [gave] at covered
        dsimp only at covered
        have pos : 0 < (s.bay r).free := by
          rw [← listed] at mem
          exact of_decide_eq_true (List.mem_filter.mp mem).2
        have next := start.more ofWeek_nodup mem pos (by omega) gave
        obtain ⟨given, fills, grows, one⟩ := fillSet_fills next (fun q part => by
          by_cases own : q = r
          · subst own; simp [partly] at part
          · simp [partly, own] at part) (by omega) (by omega) covered
        have all : 0 + (s.bay r).free + (fuel.succ - (s.bay r).free) = 0 + fuel + 1 := by omega
        rw [all] at fills
        refine ⟨given, fills, r, mem, ?_⟩
        rw [if_neg fun ⟨q, there, has⟩ => absurd (short q there) (by omega)]
        exact ⟨le_antisymm (fills.within r) (by simpa using grows r), least, one⟩

/-! ## Lines and sets (R64 to R67) -/

theorem weekFor_some (week : x.week = some w ∨ x.week = none ∧ w ∈ (s.eligibleBays line.article line.minWeek).map Prod.fst
      ∧ ∀ p ∈ s.eligibleBays line.article line.minWeek, x.tyres.openTyres
          ≤ ((ofWeek p.1 (s.eligibleBays line.article line.minWeek)).map fun q => (s.bay q).free).sum → w ≤ p.1)
    (held : x.tyres.openTyres ≤ ((ofWeek w (s.eligibleBays line.article line.minWeek)).map fun q => (s.bay q).free).sum) :
    s.weekFor line x = some w := by
  rcases week with bound | ⟨unbound, listed, least⟩
  · rw [weekFor_bound bound, if_pos held]
  · rw [weekFor_unbound unbound]
    have able : w ∈ ((s.eligibleBays line.article line.minWeek).map Prod.fst).filter fun w =>
        x.tyres.openTyres ≤ ((ofWeek w (s.eligibleBays line.article line.minWeek)).map fun q => (s.bay q).free).sum :=
      List.mem_filter.mpr ⟨listed, decide_eq_true held⟩
    cases oldest : oldest? (((s.eligibleBays line.article line.minWeek).map Prod.fst).filter fun w =>
        x.tyres.openTyres ≤ ((ofWeek w (s.eligibleBays line.article line.minWeek)).map fun q => (s.bay q).free).sum) with
    | none => exact (List.not_mem_nil (best?_eq_none.mp oldest ▸ able)).elim
    | some v =>
      obtain ⟨mem, first⟩ := oldest?_some oldest
      obtain ⟨mem, enough⟩ := List.mem_filter.mp mem
      obtain ⟨p, there, rfl⟩ := List.mem_map.mp mem
      rw [le_antisymm (first w able) (least p there (of_decide_eq_true enough))]

/-- Settles O25: rounds of an unmatched line, and the bays that cover a set. -/
theorem linesAndSetsTakeTheOldestWeek : Obligations.LinesAndSetsTakeTheOldestWeek := by
  refine ⟨fun l i fuel urgent line s here open_ => ?round, fun l i line n s here unmatched open_ => ?line,
    fun l i j urgent line x s here inSet open_ => ?set⟩
  case round =>
    intro bays place
    have next := allocUnmatched_succ (fuel := fuel) (urgent := urgent) here rfl open_
    refine ⟨fun w q => ?_, fun none_ => ?_, fun some_ => ?_⟩
    · rw [mem_eligibleBays, bayEligible_iff, inService_iff]
      constructor
      · rintro ⟨⟨lot, holds, article, week, clear, free⟩, rfl, used, serves⟩
        have own : s.weekOf q = lot.week := by rw [State.weekOf, holds]; rfl
        exact ⟨lot, holds, article, own.symm, by rw [own]; exact week, clear, free, used, serves⟩
      · rintro ⟨lot, holds, article, rfl, week, clear, free, used, serves⟩
        exact ⟨⟨lot, holds, article, week, clear, free⟩, by rw [State.weekOf, holds]; rfl, used, serves⟩
    · rw [next, bayFor_none.mpr none_]
    · cases found : s.bayFor line.article line.minWeek with
      | none => exact (some_ (bayFor_none.mp found)).elim
      | some r =>
        obtain ⟨w, mem, oldest, best⟩ := bayFor_some found
        exact ⟨w, r, mem, oldest, best, by rw [next, found] <;> rfl⟩
  case line =>
    intro v
    obtain ⟨m, urgent, served, runs⟩ := allocLine_unmatched here unmatched open_
    have eq : v = _ := runs
    clear_value v
    subst eq
    generalize State.allocUnmatched l i urgent n.openTyres s = u at served ⊢
    cases stop : u.stopped with
    | true =>
      rw [if_pos rfl]
      obtain ⟨left, starved⟩ := served.starved stop
      exact ⟨_, served.left, rfl, rfl, served.total, served.grows, fun e => (Bool.false_ne_true (e.symm.trans stop)).elim,
        fun _ => ⟨left, rfl, starved⟩⟩
    | false =>
      rw [if_neg Bool.false_ne_true]
      refine ⟨_, markWaiting_line served.left, rfl, rfl, served.total, served.grows, fun _ => ⟨?_, rfl⟩,
        fun e => (Bool.false_ne_true e).elim⟩
      rw [markWaiting_eligibleBays]
      exact served.done stop
  case set =>
    intro bays need holds v
    refine ⟨allocSet_stopped, fun w bound few => ?_, fun unbound few => ?_, fun w week held stopped => ?_⟩
    · refine allocSet_none open_ ?_
      rw [weekFor_bound bound, if_neg (not_le.mpr few)]
    · refine allocSet_none open_ ?_
      rw [weekFor_unbound unbound]
      refine best?_eq_none.mpr (List.filter_eq_nil_iff.mpr fun w mem => ?_)
      obtain ⟨p, there, rfl⟩ := List.mem_map.mp mem
      simpa using few p there
    · intro given
      have runs : v = _ := allocSet_some open_ (weekFor_some week held)
      cases covered : (s.boundTo l i j w).coverSet l i j line urgent w x.tyres.openTyres with
      | none => rw [runs, covered] at stopped; cases stopped
      | some t =>
        rw [covered] at runs
        obtain ⟨given', fills, r, mem, covers⟩ := coverSet_covers here inSet open_ held covered
        have given_eq : given = given' := by
          funext q
          simp only [given, runs, fills.reserves.bay]
          omega
        rw [runs, given_eq]
        refine ⟨?_, fills.reserves.bay, fun q pos => ⟨mem_ofWeek.mp (fills.only q pos), fills.within q⟩, fills.sum, fills.others,
          r, mem_ofWeek.mp mem, ?_⟩
        · obtain ⟨y, there, inside⟩ := fills.record
          exact ⟨y, there, inside.trans (by simp [need])⟩
        · have some_ : (∃ p ∈ bays, p.1 = w ∧ need ≤ (s.bay p.2).free)
              ↔ ∃ q ∈ ofWeek w (s.eligibleBays line.article line.minWeek), x.tyres.openTyres ≤ (s.bay q).free := by
            constructor
            · rintro ⟨⟨_, q⟩, there, rfl, enough⟩; exact ⟨q, mem_ofWeek.mpr there, enough⟩
            · rintro ⟨q, there, enough⟩; exact ⟨(w, q), mem_ofWeek.mp there, rfl, enough⟩
          by_cases one : ∃ q ∈ ofWeek w (s.eligibleBays line.article line.minWeek), x.tyres.openTyres ≤ (s.bay q).free
          · rw [if_pos one] at covers
            obtain ⟨all, enough, least⟩ := covers
            rw [if_pos (some_.mpr one)]
            refine ⟨all, enough, ?_⟩
            rintro ⟨_, q⟩ there rfl has
            exact least q (mem_ofWeek.mpr there) has
          · rw [if_neg one] at covers
            obtain ⟨all, least, single⟩ := covers
            rw [if_neg (mt some_.mp one)]
            refine ⟨all, ?_, fun p _ q _ hp hp' hq hq' => single p.2 q.2 ⟨hp, hp'⟩ ⟨hq, hq'⟩⟩
            rintro ⟨_, q⟩ there rfl
            exact least q (mem_ofWeek.mpr there)

end Sets

end Sys2Proof.Machine

/-! What cuts of pick tasks leave (R69, R70, R71). -/

namespace Sys2Proof.Machine

section PicksOnly

variable {s t u : State} {i : Ticket} {x z : Task} {r : BayRef} {f : Bay → Bay} {l : List (Ticket × Task)}

/-- No put task works for a line. -/
def State.putsIdle (s : State) : Prop := ∀ i z, s.task i = some z → z.kind = .put → z.work = none

theorem kind_pick_iff : x.kind = .pick ↔ x.kind ≠ .put := by cases x.kind <;> decide

/-- What work on pick tasks keeps: the promised tyres, the put tasks, and of every task its kind. -/
structure PutsStay (s t : State) : Prop where
  incoming : ∀ q, (t.bay q).incoming = (s.bay q).incoming
  origin : ∀ i z, t.task i = some z → ∃ y, s.task i = some y ∧ z.kind = y.kind ∧ (y.work = none → z.work = none)
  puts : ∀ i z, s.task i = some z → z.kind = .put → t.task i = some z

namespace PutsStay

theorem of_same (carousels : t.carousels = s.carousels) (tasks : t.tasks = s.tasks) : PutsStay s t := by
  have carousel (c : CarouselId) : t.carousel c = s.carousel c := congrArg (look · c) carousels
  have task (i : Ticket) : t.task i = s.task i := congrArg (look · i) tasks
  exact ⟨fun q => by rw [bay_eq, carousel]; rfl, fun i z there => ⟨z, (task i).symm.trans there, rfl, id⟩,
    fun i z there _ => (task i).trans there⟩

theorem refl (s : State) : PutsStay s s := of_same rfl rfl

theorem trans (a : PutsStay s t) (b : PutsStay t u) : PutsStay s u where
  incoming q := (b.incoming q).trans (a.incoming q)
  origin i z there := by
    obtain ⟨y, mid, kind, idle⟩ := b.origin i z there
    obtain ⟨y', here, kind', idle'⟩ := a.origin i y mid
    exact ⟨y', here, kind.trans kind', idle ∘ idle'⟩
  puts i z there put_ := b.puts i z (a.puts i z there put_) put_

theorem putsIdle (h : PutsStay s t) (idle : s.putsIdle) : t.putsIdle := fun i z there put_ => by
  obtain ⟨y, here, kind, keeps⟩ := h.origin i z there
  exact keeps (idle i y here (kind ▸ put_))

/-- A put task stands after the work exactly where it stood before. -/
theorem task_put_iff (h : PutsStay s t) (put_ : z.kind = .put) : t.task i = some z ↔ s.task i = some z := by
  refine ⟨fun there => ?_, fun here => h.puts i z here put_⟩
  obtain ⟨y, here, kind, _⟩ := h.origin i z there
  have same := h.puts i y here (kind ▸ put_)
  rw [there] at same
  rw [here, ← same]

theorem changeBay (keeps : ∀ b, (f b).incoming = b.incoming) : PutsStay s (s.changeBay r f) where
  incoming q := by
    rw [changeBay_bay]
    split
    · next own => subst own; rw [settleEmpty_incoming, keeps]
    · rfl
  origin i z there := ⟨z, (changeBay_task ..).symm.trans there, rfl, id⟩
  puts i z there _ := (changeBay_task ..).trans there

theorem freeTask (stands : s.task i = some x) (pick : x.kind = .pick) : PutsStay s (s.freeTask i) where
  incoming q := by rw [(Frees.freeTask s i).bay]
  origin j z there := by
    rw [freeTask_task] at there
    split at there
    · cases there
    · exact ⟨z, there, rfl, id⟩
  puts j z there put_ := by
    rw [freeTask_task, if_neg ?_, there]
    rintro rfl
    rw [stands] at there
    cases there
    exact absurd put_ (kind_pick_iff.mp pick)

theorem setTask (stands : s.task i = some x) (pick : x.kind = .pick) (kind : z.kind = x.kind)
    (idle : x.work = none → z.work = none) : PutsStay s (s.setTask i (some z)) where
  incoming q := rfl
  origin j y there := by
    by_cases own : i = j
    · subst own
      rw [setTask_task_self] at there
      cases there
      exact ⟨x, stands, kind, idle⟩
    · rw [setTask_task_ne _ _ own] at there
      exact ⟨y, there, rfl, id⟩
  puts j y there put_ := by
    rw [setTask_task_ne _ _ ?_, there]
    rintro rfl
    rw [stands] at there
    cases there
    exact absurd put_ (kind_pick_iff.mp pick)

theorem giveBack (pick : x.kind = .pick) : PutsStay s (s.changeBay x.bay (giveBack x)) := by
  rw [giveBack_of_pick pick]
  exact changeBay fun _ => rfl

theorem takeAway (stands : s.task i = some x) (pick : x.kind = .pick) : PutsStay s (s.takeAway i x) := by
  have back : (s.changeBay x.bay (Machine.giveBack x)).task i = some x := (changeBay_task ..).trans stands
  cases state : x.state with
  | queued => rw [takeAway_of_queued state]; exact (giveBack pick).trans (freeTask back pick)
  | presented =>
    rw [takeAway_of_presented state]
    refine ((giveBack pick).trans (setTask (z := { x with state := .cancelled, work := none }) back pick rfl fun _ => rfl)).trans ?_
    exact (of_same (postStation_carousels ..) (postStation_tasks ..)).trans (of_same rfl rfl)
  | cancelled => rw [State.takeAway, state]; exact refl s

theorem takeAll (once : (l.map Prod.fst).Nodup) (stand : ∀ p ∈ l, s.task p.1 = some p.2 ∧ p.2.kind = .pick) :
    PutsStay s (s.takeAll l) := by
  induction l generalizing s with
  | nil => exact refl s
  | cons p rest ih =>
    rw [List.map_cons, List.nodup_cons] at once
    obtain ⟨stands, pick⟩ := stand p (.head _)
    refine (takeAway stands pick).trans (ih once.2 fun q mem => ?_)
    rw [takeAway_task_ne _ fun e => once.1 (List.mem_map.mpr ⟨q, mem, e.symm⟩)]
    exact stand q (.tail _ mem)

theorem duePass (s : State) : PutsStay s s.duePass := of_same rfl rfl
theorem modLine (s : State) (l : LaneId) (i : Nat) (f : Line → Line) : PutsStay s (s.modLine l i f) := of_same rfl rfl
theorem modWork (s : State) (w : PickWork) (f : Counters → Counters) : PutsStay s (s.modWork w f) := of_same rfl rfl

theorem afterReopen (idle : s.putsIdle) (w : PickWork) : PutsStay s (s.afterReopen w) := by
  unfold State.afterReopen
  split
  · exact duePass s
  · next j _ =>
    split
    · exact duePass s
    · split
      · rw [releaseSet_eq]
        refine ((takeAll pickTasks_nodup fun p mem => ?_).trans (modLine ..)).trans (duePass _)
        obtain ⟨stands, mine⟩ := mem_pickTasks_iff.mp mem
        refine ⟨stands, kind_pick_iff.mpr fun put_ => ?_⟩
        rw [worksFor_ofSet, idle _ _ stands put_] at mine
        cases mine
      · exact duePass s

theorem cutTask (idle : s.putsIdle) (stands : s.task i = some x) (pick : x.kind = .pick) (n : Nat) :
    PutsStay s (s.cutTask i x n) := by
  have back : (s.changeBay x.bay fun b => { b with reserved := b.reserved - n }).task i = some x := (changeBay_task ..).trans stands
  have cut : PutsStay s (if x.count ≤ n then (s.changeBay x.bay fun b => { b with reserved := b.reserved - n }).freeTask i
      else (s.changeBay x.bay fun b => { b with reserved := b.reserved - n }).setTask i
        (some { x with count := x.count - n })) := by
    have change : PutsStay s (s.changeBay x.bay fun b => { b with reserved := b.reserved - n }) := changeBay fun _ => rfl
    generalize (s.changeBay x.bay fun b => { b with reserved := b.reserved - n }) = v at *
    split
    · exact change.trans (freeTask back pick)
    · exact change.trans (setTask (z := { x with count := x.count - n }) back pick rfl id)
  unfold State.cutTask
  dsimp only
  generalize (if x.count ≤ n then _ else _ : State) = u at cut ⊢
  split
  · exact cut
  · next w _ =>
    have moved : PutsStay s (u.modWork w (Counters.reopen n)) := cut.trans (modWork ..)
    exact moved.trans (afterReopen (moved.putsIdle idle) w)

/-- Cuts leave the put tasks and what they promise (R71). -/
theorem cutExcess (idle : s.putsIdle) (counted fuel cut : Nat) : PutsStay s (State.cutExcess r counted fuel cut s).1 := by
  induction fuel generalizing cut s with
  | zero => exact refl s
  | succ fuel ih =>
    unfold State.cutExcess
    dsimp only
    split
    · exact refl s
    · split
      · exact refl s
      · next j y newest =>
        obtain ⟨stands, _, pick, _⟩ := mem_queuedOnBay.mp (best?_mem newest)
        have once := PutsStay.cutTask idle stands pick (min ((s.bay r).reserved - counted) y.count)
        exact once.trans (ih (once.putsIdle idle) _)

end PutsStay

end PicksOnly

end Sys2Proof.Machine

/-! One cut of an unmatched line, and the rounds of cuts and trims (R69, R71, R142). -/

namespace Sys2Proof.Machine

section Rounds

variable {s t u : State} {i j : Ticket} {x z : Task} {r : BayRef} {w : PickWork} {a n counted limit fuel : Nat}

/-! ## One cut (R69) -/

/-- The state after the bay and the task were cut. -/
def State.cutDown (s : State) (i : Ticket) (x : Task) (a : Nat) : State :=
  if x.count ≤ a then (s.changeBay x.bay fun b => { b with reserved := b.reserved - a }).freeTask i
  else (s.changeBay x.bay fun b => { b with reserved := b.reserved - a }).setTask i (some { x with count := x.count - a })

theorem cutTask_unmatched (work : x.work = some w) (unmatched : w.set = none) :
    s.cutTask i x a = ((s.cutDown i x a).modWork w (Counters.reopen a)).duePass := by
  have reopened : s.cutTask i x a = ((s.cutDown i x a).modWork w (Counters.reopen a)).afterReopen w := by
    unfold State.cutTask
    dsimp only
    split
    · next none_ => rw [work] at none_; cases none_
    · next w' some_ =>
      rw [work] at some_
      cases some_
      rfl
  rw [reopened, State.afterReopen, unmatched]

theorem cutDown_task (j : Ticket) :
    (s.cutDown i x a).task j
      = if j = i then (if a < x.count then some { x with count := x.count - a } else none) else s.task j := by
  unfold State.cutDown
  by_cases whole : x.count ≤ a
  · rw [if_pos whole, freeTask_task, changeBay_task, if_neg (not_lt.mpr whole)]
    exact if_congr eq_comm rfl rfl
  · rw [if_neg whole, if_pos (not_le.mp whole)]
    by_cases own : j = i
    · rw [if_pos own, own, setTask_task_self]
    · rw [if_neg own, setTask_task_ne _ _ (Ne.symm own), changeBay_task]

/-- Only the bay and the calls of the carousels differ after a cut of a bay's reserved tyres. -/
theorem cutDown_rest :
    (∀ q, (s.cutDown i x a).bay q = if q = x.bay then (s.bay q).unreserve a else s.bay q)
      ∧ (s.cutDown i x a).lanes = s.lanes ∧ (∀ q, (s.cutDown i x a).port q = s.port q)
      ∧ (s.cutDown i x a).due.pass = s.due.pass := by
  have light : Weightless fun b : Bay => { b with reserved := b.reserved - a } := weightless_reserved _
  have bay (q : BayRef) : (s.changeBay x.bay fun b => { b with reserved := b.reserved - a }).bay q
      = if q = x.bay then (s.bay q).unreserve a else s.bay q := by
    rw [changeBay_bay]
    split
    · next own => subst own; rfl
    · rfl
  have lanes : (s.changeBay x.bay fun b => { b with reserved := b.reserved - a }).lanes = s.lanes := changeBay_lanes ..
  have port (q : PortId) : (s.changeBay x.bay fun b => { b with reserved := b.reserved - a }).port q = s.port q :=
    changeBay_port_of_weightless light q
  have pass : (s.changeBay x.bay fun b => { b with reserved := b.reserved - a }).due.pass = s.due.pass :=
    congrArg Due.pass (changeBay_due_of_weightless light)
  unfold State.cutDown
  generalize (s.changeBay x.bay fun b => { b with reserved := b.reserved - a }) = v at *
  split
  · have frees := Frees.freeTask v i
    exact ⟨fun q => (frees.bay q).trans (bay q), frees.lanes.trans lanes, fun q => (frees.port q).trans (port q),
      (congrArg Due.pass frees.due).trans pass⟩
  · exact ⟨bay, lanes, port, pass⟩

theorem ports_of_port {s t : State} (port : ∀ q, t.port q = s.port q) : t.ports = s.ports :=
  Vector.ext fun n bound => port ⟨n, bound⟩

/-- A cut of a task of an unmatched line, as R69 says it. -/
structure CutOnce (s : State) (i : Ticket) (x : Task) (w : PickWork) (a : Nat) (t : State) : Prop where
  task : ∀ j, t.task j = if j = i then (if a < x.count then some { x with count := x.count - a } else none) else s.task j
  bay : ∀ q, t.bay q = if q = x.bay then (s.bay q).unreserve a else s.bay q
  lane : ∀ l, t.lane l = (s.modWork w (Counters.reopen a)).lane l
  ports : t.ports = s.ports
  pass : t.due.pass = true

theorem cutTask_once (work : x.work = some w) (unmatched : w.set = none) : CutOnce s i x w a (s.cutTask i x a) := by
  obtain ⟨bay, lanes, port, _⟩ := cutDown_rest (s := s) (i := i) (x := x) (a := a)
  have task := cutDown_task (s := s) (i := i) (x := x) (a := a)
  rw [cutTask_unmatched work unmatched]
  generalize s.cutDown i x a = v at *
  exact ⟨task, bay, modWork_lane_congr lanes _, ports_of_port port, rfl⟩

/-! ## Rounds -/

/-- A QUEUED task of one kind on a bay. -/
def Task.queuedAt (r : BayRef) (kind : TaskKind) (z : Task) : Prop := z.kind = kind ∧ z.state = .queued ∧ z.bay = r

theorem mem_queuedOnBay_iff {kind : TaskKind} {p : Ticket × Task} :
    p ∈ s.queuedOnBay r kind ↔ s.task p.1 = some p.2 ∧ p.2.queuedAt r kind := by
  rw [mem_queuedOnBay, Task.queuedAt]; tauto

theorem newestTask?_newest {l : List (Ticket × Task)} {p : Ticket × Task} (bound : ∀ q ∈ l, q.2.stamp.toNat < 2 ^ 31)
    (newest : newestTask? l = some p) : ∀ q ∈ l, q.2.stamp.toNat ≤ p.2.stamp.toNat := by
  have mem := best?_mem newest
  refine best?_key_le (key := fun q : Ticket × Task => OrderDual.toDual q.2.stamp.toNat) (fun a ha b hb lt => ?_)
    (fun a ha b hb older => ?_) newest
  · exact (stampOlder_iff (bound b hb) (bound a ha)).mpr lt
  · exact ((stampOlder_iff (bound b hb) (bound a ha)).mp older).le

/-- Every QUEUED task of one kind on a bay has a tyre and a stamp that is young. -/
def State.sound (s : State) (r : BayRef) (kind : TaskKind) : Prop :=
  ∀ i z, s.task i = some z → z.queuedAt r kind → 1 ≤ z.count ∧ z.stamp.toNat < 2 ^ 31

theorem newest_of_sound {kind : TaskKind} (sound : s.sound r kind) (newest : newestTask? (s.queuedOnBay r kind) = some (i, x)) :
    s.task i = some x ∧ x.queuedAt r kind ∧ ∀ j z, s.task j = some z → z.queuedAt r kind → z.stamp.toNat ≤ x.stamp.toNat := by
  obtain ⟨stands, at_⟩ := mem_queuedOnBay_iff.mp (best?_mem newest)
  refine ⟨stands, at_, fun j z there on => ?_⟩
  refine newestTask?_newest (fun q mem => ?_) newest (j, z) (mem_queuedOnBay_iff.mpr ⟨there, on⟩)
  obtain ⟨here, on⟩ := mem_queuedOnBay_iff.mp mem
  exact (sound q.1 q.2 here on).2

theorem queuedOnBay_none {kind : TaskKind} (none_ : newestTask? (s.queuedOnBay r kind) = none) (i : Ticket) (z : Task)
    (there : s.task i = some z) : ¬ z.queuedAt r kind := fun on => by
  have empty := best?_eq_none.mp none_
  exact List.not_mem_nil (empty ▸ (mem_queuedOnBay_iff (p := (i, z))).mpr ⟨there, on⟩)

/-! ## Trims (R142 step 3) -/

/-- The tyres of the QUEUED put tasks of a bay that are gone. -/
def trimmedOf (s t : State) (r : BayRef) : Nat := ((List.finRange 256).map fun i => match s.task i with
  | some z => if z.kind = .put ∧ z.state = .queued ∧ z.bay = r ∧ t.task i = none then z.count else 0
  | none => 0).sum

/-- What the rounds of trims leave. -/
structure Trims (s t : State) (r : BayRef) (counted limit n : Nat) : Prop where
  task : ∀ i, t.task i = s.task i ∨ t.task i = none ∧ ∃ z, s.task i = some z ∧ z.queuedAt r .put
  sum : n = trimmedOf s t r
  incoming : ∀ q, (t.bay q).incoming = if q = r then (s.bay q).incoming - n else (s.bay q).incoming
  reserved : ∀ q, (t.bay q).reserved = (s.bay q).reserved
  ends : counted + (t.bay r).incoming ≤ limit ∨ ∀ i z, t.task i = some z → ¬ z.queuedAt r .put
  newest : ∀ i z, s.task i = some z → z.queuedAt r .put → t.task i = none →
    ∀ j v, s.task j = some v → v.queuedAt r .put → t.task j = some v → v.stamp.toNat ≤ z.stamp.toNat
  stays : counted + (s.bay r).incoming ≤ limit → n = 0
  last : 0 < n → ∃ i z, s.task i = some z ∧ z.queuedAt r .put ∧ t.task i = none ∧ limit < counted + (t.bay r).incoming + z.count
  pass : t.due.pass = s.due.pass

theorem trims_none (ends : counted + (s.bay r).incoming ≤ limit ∨ ∀ i z, s.task i = some z → ¬ z.queuedAt r .put) :
    Trims s s r counted limit 0 where
  task i := .inl rfl
  sum := by
    refine (List.sum_eq_zero fun m mem => ?_).symm
    obtain ⟨i, _, rfl⟩ := List.mem_map.mp mem
    cases stands : s.task i <;> simp
  incoming q := by simp
  reserved q := rfl
  ends := ends
  newest i z there _ gone := by rw [there] at gone; cases gone
  stays _ := rfl
  last pos := (lt_irrefl _ pos).elim
  pass := rfl

/-- A put task handed back: its promise is withdrawn and it is freed. -/
theorem handBackPut_writes (put_ : x.kind = .put) :
    (∀ j, (s.handBackPut i x).task j = if j = i then none else s.task j)
      ∧ (∀ q, ((s.handBackPut i x).bay q).incoming
          = if q = x.bay then (s.bay q).incoming - x.count else (s.bay q).incoming)
      ∧ (∀ q, ((s.handBackPut i x).bay q).reserved = (s.bay q).reserved)
      ∧ (s.handBackPut i x).due.pass = s.due.pass := by
  have posted (v : State) (p : PortId) (m : Notice) : (∀ j, (v.post p m).task j = v.task j) ∧ (∀ q, (v.post p m).bay q = v.bay q)
      ∧ (v.post p m).due.pass = v.due.pass := ⟨fun _ => rfl, fun _ => rfl, rfl⟩
  obtain ⟨task, bay, pass⟩ := posted (s.cancelPut i x) stockPort (.putRemainder i (((s.bay x.bay).lot.map Lot.article).getD 0)
    (((s.bay x.bay).lot.map Lot.week).getD 0) x.count)
  have frees := Frees.freeTask (s.changeBay x.bay (giveBack x)) i
  have book (q : BayRef) : (s.cancelPut i x).bay q = if q = x.bay then (giveBack x (s.bay x.bay)).settleEmpty else s.bay q :=
    (frees.bay q).trans (changeBay_bay ..)
  refine ⟨fun j => (task j).trans ?_, fun q => ?_, fun q => ?_, pass.trans ?_⟩
  · rw [State.cancelPut, freeTask_task, changeBay_task]
    exact if_congr eq_comm rfl rfl
  · rw [State.handBackPut, State.postRemainder, bay, book]
    split
    · next own => rw [settleEmpty_incoming, giveBack_of_put put_, own]
    · rfl
  · rw [State.handBackPut, State.postRemainder, bay, book]
    split
    · next own => rw [settleEmpty_reserved, giveBack_of_put put_, own]
    · rfl
  · have freed : (s.cancelPut i x).due.pass = (s.changeBay x.bay (giveBack x)).due.pass := by
      rw [State.cancelPut, frees.due]
    rw [freed, changeBay_due]

/-- One trim, and the rounds after it. -/
theorem Trims.after {counted limit n : Nat} (stands : s.task i = some x) (at_ : x.queuedAt r .put)
    (newest : ∀ j z, s.task j = some z → z.queuedAt r .put → z.stamp.toNat ≤ x.stamp.toNat)
    (above : limit < counted + (s.bay r).incoming) (rest : Trims (s.handBackPut i x) t r counted limit n) :
    Trims s t r counted limit (x.count + n) := by
  obtain ⟨task, incoming, reserved, pass⟩ := handBackPut_writes (s := s) (i := i) at_.1
  have own : t.task i = none := by
    have gone : (s.handBackPut i x).task i = none := (task i).trans (if_pos rfl)
    rcases rest.task i with e | ⟨e, _⟩
    · exact e.trans gone
    · exact e
  have other {j : Ticket} (ne : j ≠ i) : (s.handBackPut i x).task j = s.task j := (task j).trans (if_neg ne)
  have left : ((s.handBackPut i x).bay r).incoming = (s.bay r).incoming - x.count := by
    rw [incoming, if_pos at_.2.2.symm]
  refine ⟨fun j => ?_, ?_, fun q => ?_, fun q => (rest.reserved q).trans (reserved q), rest.ends, fun j z there on gone k v here onv kept => ?_,
    fun fits => absurd fits (not_le.mpr above), fun _ => ?_, rest.pass.trans pass⟩
  · by_cases e : j = i
    · subst e; exact .inr ⟨own, x, stands, at_⟩
    · rw [← other e]; exact rest.task j
  · rw [rest.sum]
    refine (sum_tickets_add (t := i) ?_ fun j ne => ?_).symm
    · obtain ⟨put_, queued, on⟩ := at_
      simp [stands, put_, queued, on, own, task]
    · simp [other ne]
  · rw [rest.incoming, incoming, at_.2.2]
    split
    · rw [Nat.sub_sub]
    · rfl
  · by_cases e : j = i
    · subst e
      obtain rfl := Option.some.inj (stands.symm.trans there)
      exact newest k v here onv
    · refine rest.newest j z ((other e).trans there) on gone k v ?_ onv kept
      rw [other ?_, here]
      rintro rfl
      rw [own] at kept
      cases kept
  · rcases Nat.eq_zero_or_pos n with rfl | pos
    · refine ⟨i, x, stands, at_, own, ?_⟩
      have same := rest.incoming r
      rw [if_pos rfl, left, Nat.sub_zero] at same
      omega
    · obtain ⟨j, z, there, on, gone, less⟩ := rest.last pos
      refine ⟨j, z, ?_, on, gone, less⟩
      rw [← other ?_]
      · exact there
      · rintro rfl
        rw [task, if_pos rfl] at there
        cases there

theorem sound_of_gone {kind : TaskKind} (sound : s.sound r kind) (task : ∀ j, t.task j = if j = i then none else s.task j) :
    t.sound r kind := fun j z there on => by
  rw [task] at there
  split at there
  · cases there
  · exact sound j z there on

theorem trimPuts_trims (sound : s.sound r .put) (fits : counted ≤ limit) (enough : (s.bay r).incoming ≤ fuel) (trimmed : Nat) :
    ∃ n, (State.trimPuts r counted limit fuel trimmed s).2 = trimmed + n
      ∧ Trims s (State.trimPuts r counted limit fuel trimmed s).1 r counted limit n := by
  induction fuel generalizing trimmed s with
  | zero => exact ⟨0, rfl, trims_none (.inl (by omega))⟩
  | succ fuel ih =>
    unfold State.trimPuts
    split
    · next within => exact ⟨0, rfl, trims_none (.inl within)⟩
    · next above =>
      split
      · next none_ => exact ⟨0, rfl, trims_none (.inr (queuedOnBay_none none_))⟩
      · next i x newest =>
        obtain ⟨stands, at_, first⟩ := newest_of_sound sound newest
        obtain ⟨some_, _⟩ := sound i x stands at_
        obtain ⟨task, incoming, _⟩ := handBackPut_writes (s := s) (i := i) at_.1
        have left : ((s.handBackPut i x).bay r).incoming = (s.bay r).incoming - x.count := by
          rw [incoming, if_pos at_.2.2.symm]
        obtain ⟨n, total, rest⟩ := ih (s := s.handBackPut i x) (sound_of_gone sound task) (by omega) (trimmed + x.count)
        exact ⟨x.count + n, by rw [total]; omega, rest.after stands at_ first (not_le.mp above)⟩

/-! ## Cuts of unmatched lines (R71, R142 step 2) -/

/-- The tyres that the QUEUED pick tasks of a bay lost. -/
def cutOf (s t : State) (r : BayRef) : Nat := ((List.finRange 256).map fun i => match s.task i with
  | some z => if z.kind = .pick ∧ z.state = .queued ∧ z.bay = r then z.count - ((t.task i).map Task.count).getD 0 else 0
  | none => 0).sum

/-- Every QUEUED pick task of the bay works for an unmatched line. -/
def State.unmatchedAt (s : State) (r : BayRef) : Prop :=
  ∀ i z, s.task i = some z → z.queuedAt r .pick → ∃ w, z.work = some w ∧ w.set = none

theorem sub_split {n a c : Nat} (part : a < n) (le : c ≤ n - a) : n - c = a + (n - a - c) := by omega

/-- What is left of a task that cuts found. -/
def CutLeft (z : Task) (left : Option Task) : Prop :=
  left = none ∨ ∃ m, 0 < m ∧ m ≤ z.count ∧ left = some { z with count := m }

/-- What the rounds of cuts leave where no set is cut. -/
structure CutsDown (s t : State) (r : BayRef) (counted n : Nat) : Prop where
  task : ∀ i, t.task i = s.task i ∨ ∃ z, s.task i = some z ∧ z.queuedAt r .pick ∧ CutLeft z (t.task i)
  sum : n = cutOf s t r
  reserved : (t.bay r).reserved = (s.bay r).reserved - n
  atMost : n ≤ (s.bay r).reserved - counted
  ends : n = (s.bay r).reserved - counted ∨ ∀ i z, t.task i = some z → ¬ z.queuedAt r .pick
  newest : ∀ i z, s.task i = some z → z.queuedAt r .pick → t.task i ≠ some z →
    ∀ j v, s.task j = some v → v.queuedAt r .pick → z.stamp.toNat < v.stamp.toNat → t.task j = none
  pass : t.due.pass = (s.due.pass || decide (0 < n))

theorem cutsDown_none (ends : 0 = (s.bay r).reserved - counted ∨ ∀ i z, s.task i = some z → ¬ z.queuedAt r .pick) :
    CutsDown s s r counted 0 where
  task i := .inl rfl
  sum := by
    refine (List.sum_eq_zero fun m mem => ?_).symm
    obtain ⟨i, _, rfl⟩ := List.mem_map.mp mem
    cases stands : s.task i <;> simp
  reserved := rfl
  atMost := Nat.zero_le _
  ends := ends
  newest i z there _ changed := (changed there).elim
  pass := by simp

/-- A task is at most what it was after the rounds. -/
theorem CutsDown.left {n : Nat} (h : CutsDown s t r counted n) (there : s.task i = some z) (some_ : 1 ≤ z.count) : CutLeft z (t.task i) := by
  rcases h.task i with same | ⟨y, here, _, left⟩
  · exact .inr ⟨z.count, some_, le_rfl, same.trans there⟩
  · obtain rfl := Option.some.inj (there.symm.trans here)
    exact left

theorem CutLeft.count_le {left : Option Task} (h : CutLeft z left) : (left.map Task.count).getD 0 ≤ z.count := by
  rcases h with rfl | ⟨m, _, le, rfl⟩
  · exact Nat.zero_le _
  · exact le

/-- One cut of the newest task, and the rounds after it. -/
theorem CutsDown.after {n : Nat} (stands : s.task i = some x) (at_ : x.queuedAt r .pick) (work : x.work = some w)
    (unmatched : w.set = none) (newest : ∀ j z, s.task j = some z → z.queuedAt r .pick → z.stamp.toNat ≤ x.stamp.toNat)
    (some_ : 1 ≤ a) (fits : a ≤ x.count) (excess : a ≤ (s.bay r).reserved - counted)
    (rest : CutsDown (s.cutTask i x a) t r counted n) : CutsDown s t r counted (a + n) := by
  have once := cutTask_once (s := s) (i := i) (a := a) work unmatched
  have other {j : Ticket} (ne : j ≠ i) : (s.cutTask i x a).task j = s.task j := (once.task j).trans (if_neg ne)
  have self := (once.task i).trans (if_pos rfl)
  have left : ((s.cutTask i x a).bay r).reserved = (s.bay r).reserved - a := by
    rw [once.bay, if_pos at_.2.2.symm, Bay.unreserve, settleEmpty_reserved]
  have onAgain : Task.queuedAt r .pick { x with count := x.count - a } := at_
  have own : t.task i = none ∧ ((s.cutTask i x a).task i = none)
      ∨ a < x.count ∧ CutLeft { x with count := x.count - a } (t.task i) := by
    by_cases part : a < x.count
    · rw [if_pos part] at self
      exact .inr ⟨part, rest.left self (by show 1 ≤ x.count - a; omega)⟩
    · rw [if_neg part] at self
      refine .inl ⟨?_, self⟩
      rcases rest.task i with e | ⟨z, e, _⟩
      · exact e.trans self
      · rw [self] at e; cases e
  refine ⟨fun j => ?_, ?_, ?_, ?_, ?_, fun j z there on changed k v here onv newer => ?_, ?_⟩
  · by_cases e : j = i
    · subst e
      refine .inr ⟨x, stands, at_, ?_⟩
      rcases own with ⟨gone, _⟩ | ⟨_, gone | ⟨m, pos, le, there⟩⟩
      · exact .inl gone
      · exact .inl gone
      · exact .inr ⟨m, pos, le.trans (Nat.sub_le _ _), there⟩
    · rw [← other e]; exact rest.task j
  · rw [rest.sum]
    refine (sum_tickets_add (t := i) ?_ fun j ne => ?_).symm
    · obtain ⟨pick, queued, on⟩ := at_
      rcases own with ⟨gone, before⟩ | ⟨part, cutLeft⟩
      · have whole : a = x.count := by
          rw [self] at before
          by_contra other
          rw [if_pos (by omega)] at before
          cases before
        simp [stands, pick, queued, on, gone, before, whole.symm]
      · have le : ((t.task i).map Task.count).getD 0 ≤ x.count - a := cutLeft.count_le
        rw [self, if_pos part]
        simp only [stands, pick, queued, on, and_self, if_true]
        exact sub_split part le
    · simp [other ne]
  · rw [rest.reserved, left, Nat.sub_sub]
  · have := rest.atMost
    rw [left] at this
    omega
  · rcases rest.ends with all | none_
    · rw [left] at all
      exact .inl (by omega)
    · exact .inr none_
  · by_cases e : j = i
    · subst e
      obtain rfl := Option.some.inj (stands.symm.trans there)
      exact absurd (newest k v here onv) (not_le.mpr newer)
    · by_cases e' : k = i
      · subst e'
        obtain rfl := Option.some.inj (stands.symm.trans here)
        rcases own with ⟨gone, _⟩ | ⟨part, _⟩
        · exact gone
        · rw [if_pos part] at self
          exact rest.newest j z ((other e).trans there) on changed k _ self onAgain newer
      · exact rest.newest j z ((other e).trans there) on changed k v ((other e').trans here) onv newer
  · rw [rest.pass, once.pass, Bool.true_or]
    simp [show 0 < a + n by omega]

theorem cutExcess_cutsDown (sound : s.sound r .pick) (unmatched : s.unmatchedAt r)
    (enough : (s.bay r).reserved - counted ≤ fuel) (cut : Nat) :
    ∃ n, (State.cutExcess r counted fuel cut s).2 = cut + n
      ∧ CutsDown s (State.cutExcess r counted fuel cut s).1 r counted n := by
  induction fuel generalizing cut s with
  | zero => exact ⟨0, rfl, cutsDown_none (.inl (by omega))⟩
  | succ fuel ih =>
    unfold State.cutExcess
    dsimp only
    split
    · next within => exact ⟨0, rfl, cutsDown_none (.inl within.symm)⟩
    · next above =>
      split
      · next none_ => exact ⟨0, rfl, cutsDown_none (.inr (queuedOnBay_none none_))⟩
      · next i x newest =>
        obtain ⟨stands, at_, first⟩ := newest_of_sound sound newest
        obtain ⟨some_, young⟩ := sound i x stands at_
        obtain ⟨w, work, plain⟩ := unmatched i x stands at_
        have once := cutTask_once (s := s) (i := i) (a := min ((s.bay r).reserved - counted) x.count) work plain
        have left : ((s.cutTask i x (min ((s.bay r).reserved - counted) x.count)).bay r).reserved
            = (s.bay r).reserved - min ((s.bay r).reserved - counted) x.count := by
          rw [once.bay, if_pos at_.2.2.symm, Bay.unreserve, settleEmpty_reserved]
        have kept {j : Ticket} {z : Task} (there : (s.cutTask i x (min ((s.bay r).reserved - counted) x.count)).task j = some z) :
            s.task j = some z ∨ z = { x with count := x.count - min ((s.bay r).reserved - counted) x.count } ∧ 1 ≤ z.count := by
          rw [once.task] at there
          split at there
          · split at there
            · next part => cases there; exact .inr ⟨rfl, by show 1 ≤ x.count - _; omega⟩
            · cases there
          · exact .inl there
        obtain ⟨n, total, rest⟩ := ih (s := s.cutTask i x (min ((s.bay r).reserved - counted) x.count))
          (fun j z there onPick => by
            rcases kept there with here | ⟨rfl, pos⟩
            · exact sound j z here onPick
            · exact ⟨pos, young⟩)
          (fun j z there on => by
            rcases kept there with here | ⟨rfl, _⟩
            · exact unmatched j z here on
            · exact ⟨w, work, plain⟩)
          (by omega) (cut + min ((s.bay r).reserved - counted) x.count)
        exact ⟨min ((s.bay r).reserved - counted) x.count + n, by rw [total]; omega,
          rest.after stands at_ work plain first (by omega) (by omega) (by omega)⟩

end Rounds

end Sys2Proof.Machine

/-! The outcome of a discrepancy in an ADJUST phase (R142). -/

namespace Sys2Proof.Machine

section Adjusts

variable {s t u v : State} {i : Ticket} {x : PhaseBay} {z : Task} {r : BayRef} {lot : Lot} {counted limit fuel cut n : Nat}
  {mode : AuditMode}

/-! ## The book (R142 steps 1 to 3) -/

theorem cutExcess_of_within (within : (s.bay r).reserved ≤ counted) : State.cutExcess r counted fuel cut s = (s, cut) := by
  cases fuel with
  | zero => rfl
  | succ fuel => simp only [State.cutExcess, if_pos (Nat.sub_eq_zero_of_le within)]

theorem trimPuts_of_within (within : counted + (s.bay r).incoming ≤ limit) :
    State.trimPuts r counted limit fuel n s = (s, n) := by
  cases fuel with
  | zero => rfl
  | succ fuel => simp only [State.trimPuts, if_pos within]

/-- The bay takes the count. -/
def counting (counted : Nat) (b : Bay) : Bay := { b with count := counted }

/-- The book with the count written, before anything is cut. -/
def State.countedAt (s : State) (r : BayRef) (counted : Nat) : State := s.changeBay r (counting counted)

/-- The book once picks were cut. -/
def State.cutAt (s : State) (r : BayRef) (counted : Nat) : State × Nat :=
  State.cutExcess r counted ((s.countedAt r counted).bay r).reserved 0 (s.countedAt r counted)

theorem adjustBook_eq :
    s.adjustBook r counted
      = ⟨(State.trimPuts r counted (s.stackLimitOf r) ((s.cutAt r counted).1.bay r).incoming 0 (s.cutAt r counted).1).1,
          (s.cutAt r counted).2,
          (State.trimPuts r counted (s.stackLimitOf r) ((s.cutAt r counted).1.bay r).incoming 0 (s.cutAt r counted).1).2⟩ := rfl

theorem countedAt_task : (s.countedAt r counted).task i = s.task i := changeBay_task ..

theorem countedAt_reserved : ((s.countedAt r counted).bay r).reserved = (s.bay r).reserved := by
  rw [State.countedAt, changeBay_bay, if_pos rfl, settleEmpty_reserved]; rfl

theorem countedAt_incoming (q : BayRef) : ((s.countedAt r counted).bay q).incoming = (s.bay q).incoming :=
  (PutsStay.changeBay (f := counting counted) fun _ => rfl).incoming q

theorem countedAt_pass : (s.countedAt r counted).due.pass = s.due.pass := by rw [State.countedAt, changeBay_due]

theorem cutAt_of_within (within : (s.bay r).reserved ≤ counted) : s.cutAt r counted = (s.countedAt r counted, 0) :=
  cutExcess_of_within (countedAt_reserved.le.trans within)

/-- With nothing to cut and nothing to trim, the count is written and no more (R142). -/
theorem adjustBook_of_within (within : (s.bay r).reserved ≤ counted) (fits : counted + (s.bay r).incoming ≤ s.stackLimitOf r) :
    s.adjustBook r counted = ⟨s.countedAt r counted, 0, 0⟩ := by
  rw [adjustBook_eq, cutAt_of_within within, trimPuts_of_within (by rw [countedAt_incoming]; exact fits)]

theorem cutAt_putsStay (idle : s.putsIdle) : PutsStay s (s.cutAt r counted).1 := by
  have counts : PutsStay s (s.countedAt r counted) := .changeBay fun _ => rfl
  rw [State.cutAt]
  generalize s.countedAt r counted = v at *
  exact counts.trans (PutsStay.cutExcess (counts.putsIdle idle) counted _ 0)

theorem PutsStay.sound (stays : PutsStay s v) (sound : s.sound r .put) : v.sound r .put := by
  intro j z there on
  obtain ⟨put_, _⟩ := id on
  exact sound j z ((stays.task_put_iff put_).mp there) on

/-- The trims of an adjustment. -/
theorem adjustBook_trims (idle : s.putsIdle) (sound : s.sound r .put) (fits : counted ≤ s.stackLimitOf r) :
    Trims (s.cutAt r counted).1 (s.adjustBook r counted).state r counted (s.stackLimitOf r) (s.adjustBook r counted).trimmed := by
  have stays := cutAt_putsStay (r := r) (counted := counted) idle
  rw [adjustBook_eq]
  generalize s.cutAt r counted = p at *
  obtain ⟨n, total, trims⟩ := trimPuts_trims (r := r) (stays.sound sound) fits le_rfl 0
  dsimp only
  rw [total, Nat.zero_add]
  exact trims

/-- The cuts of an adjustment where no set is cut. -/
theorem adjustBook_cutsDown (sound : s.sound r .pick) (unmatched : s.unmatchedAt r) :
    CutsDown (s.countedAt r counted) (s.cutAt r counted).1 r counted (s.adjustBook r counted).cut := by
  have sound' : (s.countedAt r counted).sound r .pick := fun j z there on => sound j z (countedAt_task.symm.trans there) on
  have unmatched' : (s.countedAt r counted).unmatchedAt r := fun j z there on => unmatched j z (countedAt_task.symm.trans there) on
  rw [adjustBook_eq, State.cutAt]
  generalize s.countedAt r counted = v at *
  obtain ⟨n, total, cuts⟩ := cutExcess_cutsDown (r := r) sound' unmatched' (Nat.sub_le _ counted) 0
  dsimp only
  rw [total, Nat.zero_add]
  exact cuts

/-! ## The outcome (R142) -/

/-- The record of an adjustment. -/
def State.adjustedRecord (s : State) (r : BayRef) (x : PhaseBay) (counted cut trimmed : Nat) : DiscRecord :=
  { s.openRecord r x counted false with cut := cut, trimmed := trimmed, state := .adjusted }

theorem adjustedRecord_eq (assigned : (s.bay r).lot = some lot) (cut trimmed : Nat) :
    s.adjustedRecord r x counted cut trimmed =
      { origin := x.origin, bay := r, lot := some (lot.article, lot.week), book := x.snapshot, counted := counted,
        attempts := x.attempt + 1, kind := if x.snapshot < counted then .surplus else .shortfall, unsteady := false,
        cut := cut, trimmed := trimmed, state := .adjusted } := by
  simp only [State.adjustedRecord, State.openRecord, assigned, discKind]
  rfl

/-- What follows the adjustment of the book: the hold goes, and the record is written and reported. -/
def State.closedCount (v : State) (r : BayRef) (e : EntryId) (record : DiscRecord) : State := (v.liftHold r).recorded e record

theorem takeOutcome_adjust (assigned : (s.bay r).lot = some lot) (fits : counted ≤ s.stackLimitOf r) :
    s.takeOutcome r .adjust x counted false = (s.adjustBook r counted).state.closedCount r x.entry
      (s.adjustedRecord r x counted (s.adjustBook r counted).cut (s.adjustBook r counted).trimmed) := by
  have adjusts : outcomeMode .adjust (discKind (s.bay r) x.snapshot counted) false counted (s.stackLimitOf r) = .adjust := by
    rw [outcomeMode, discKind, assigned]
    refine if_neg ?_
    rintro (found | steady | above)
    · simp only [Option.isNone_some, Bool.false_eq_true, if_false] at found
      split at found <;> cases found
    · cases steady
    · exact absurd above (not_lt.mpr fits)
  simp only [State.takeOutcome, adjusts]
  rfl

section Closed

variable (e : EntryId) (record : DiscRecord)

theorem closedCount_bay (q : BayRef) :
    (v.closedCount r e record).bay q = if q = r then { v.bay q with auditHold := false } else v.bay q := by
  rw [State.closedCount, recorded_bay]
  have held (w : State) (q : BayRef) : w.dueUnhold.bay q = w.bay q := rfl
  rw [State.liftHold, held]
  exact modBay_bay v r (fun b => { b with auditHold := false }) q

theorem closedCount_task (i : Ticket) : (v.closedCount r e record).task i = v.task i := rfl
theorem closedCount_discs : (v.closedCount r e record).discs = put v.discs e (.record record) := rfl
theorem closedCount_discOrder : (v.closedCount r e record).discOrder = v.discOrder ++ [e] := rfl
theorem closedCount_due : (v.closedCount r e record).due = { v.due with unhold := true, select := true } := rfl

theorem closedCount_phase (c : CarouselId) : ((v.closedCount r e record).carousel c).phase = (v.carousel c).phase := by
  obtain ⟨new, rest⟩ := liftHold_rest (s := v) r c
  rw [State.closedCount, recorded_carousel, rest]

theorem closedCount_port (q : PortId) :
    (v.closedCount r e record).port q = postsTo [(stockPort, .discrepancy e record.bay record.kind record.book record.counted
      record.state record.cut record.trimmed)] q (v.port q) := recorded_port ..

theorem closedCount_inner :
    (v.closedCount r e record).inner
      = { (v.inner.setDisc e (.record record)).modBay r (fun b => { b with auditHold := false }) with
          discOrder := v.inner.discOrder ++ [e] } := rfl

end Closed

/-- What an adjustment writes of the book and the audit unit's tables, whatever it cuts. -/
theorem closedCount_adjusts (e : EntryId) (record : DiscRecord) :
    let y := (s.adjustBook r counted).state.closedCount r e record
    (y.bay r).count = counted ∧ (y.bay r).auditHold = false ∧ (y.bay r).disputed = (s.bay r).disputed
      ∧ (∀ q, q ≠ r → (y.bay q).count = (s.bay q).count) ∧ y.discs = put s.discs e (.record record)
      ∧ y.discOrder = s.discOrder ++ [e] ∧ ∀ c, (y.carousel c).phase = (s.carousel c).phase := by
  obtain ⟨cuts, counts, disputes⟩ := adjustBook_book (s := s) (r := r) (counted := counted)
  generalize (s.adjustBook r counted).state = v at *
  have own := closedCount_bay (v := v) (r := r) e record r
  rw [if_pos rfl] at own
  refine ⟨?_, ?_, ?_, fun q other => ?_, ?_, ?_, fun c => ?_⟩
  · rw [own]; exact (counts r).trans (if_pos rfl)
  · rw [own]
  · rw [own]; exact disputes r
  · rw [closedCount_bay, if_neg other, counts, if_neg other]
  · rw [closedCount_discs, cuts.discs]
  · rw [closedCount_discOrder, cuts.discOrder]
  · rw [closedCount_phase, cuts.phase]

end Adjusts

end Sys2Proof.Machine

/-! AUDIT_COUNT in an ADJUST phase (R139, R142), and the cuts it makes (R69, R71). -/

namespace Sys2Proof.Machine

section Adjusting

variable {s t u v y : State} {i : Ticket} {c : CarouselId} {b : BayId} {f : Phase} {x : PhaseBay} {z : Task}
  {r : BayRef} {lot : Lot} {counted limit cut trimmed n : Nat} {p : Presentation}

/-! ## The tasks that trims and cuts leave, seen from the start -/

/-- What an adjustment does to the tasks that stand before it: cuts to picks, and then trims of puts. -/
structure Adjustment (s v y : State) (r : BayRef) (counted limit trimmed : Nat) : Prop where
  idle : PutsStay s v
  trims : Trims v y r counted limit trimmed

namespace Adjustment

variable (h : Adjustment s v y r counted limit trimmed)
include h

theorem put_of_ne (changed : y.task i ≠ v.task i) : ∃ z, v.task i = some z ∧ z.queuedAt r .put ∧ y.task i = none := by
  rcases h.trims.task i with same | ⟨gone, z, there, on⟩
  · exact (changed same).elim
  · exact ⟨z, there, on, gone⟩

/-- A ticket that holds no put task keeps what the cuts left. -/
theorem task_of_pick (pick : ∀ z, v.task i = some z → z.kind = .pick) : y.task i = v.task i := by
  by_contra changed
  obtain ⟨z, there, ⟨put_, _⟩, _⟩ := h.put_of_ne changed
  exact kind_pick_iff.mp (pick z there) put_

theorem put_task (there : s.task i = some z) (put_ : z.kind = .put) : y.task i = none ∨ y.task i = some z := by
  have mid := h.idle.puts i z there put_
  rcases h.trims.task i with same | ⟨gone, _⟩
  · exact .inr (same.trans mid)
  · exact .inl gone

theorem trimmed_eq : trimmed = trimmedOf s y r := by
  refine h.trims.sum.trans (congrArg List.sum (List.map_congr_left fun i _ => ?_))
  cases there : s.task i with
  | none =>
    cases mid : v.task i with
    | none => rfl
    | some z => obtain ⟨_, here, _⟩ := h.idle.origin i z mid; rw [there] at here; cases here
  | some z =>
    cases kind : z.kind with
    | put => rw [h.idle.puts i z there kind]
    | pick =>
      cases mid : v.task i with
      | none => simp [kind]
      | some z' =>
        obtain ⟨y', here, same, _⟩ := h.idle.origin i z' mid
        obtain rfl := Option.some.inj (there.symm.trans here)
        simp [kind, same]

theorem ends : counted + (y.bay r).incoming ≤ limit ∨ ∀ i z, y.task i = some z → ¬ z.queuedAt r .put := h.trims.ends

theorem incoming (q : BayRef) :
    (y.bay q).incoming = if q = r then (s.bay q).incoming - trimmed else (s.bay q).incoming := by
  rw [h.trims.incoming, h.idle.incoming]

theorem newest (there : s.task i = some z) (on : z.queuedAt r .put) (gone : y.task i = none) (j : Ticket) (w : Task)
    (here : s.task j = some w) (onw : w.queuedAt r .put) (kept : y.task j = some w) : w.stamp.toNat ≤ z.stamp.toNat :=
  h.trims.newest i z (h.idle.puts i z there on.1) on gone j w (h.idle.puts j w here onw.1) onw kept

theorem stays (within : counted + (s.bay r).incoming ≤ limit) : trimmed = 0 :=
  h.trims.stays (by rw [h.idle.incoming]; exact within)

theorem last (some_ : 0 < trimmed) :
    ∃ i z, s.task i = some z ∧ z.queuedAt r .put ∧ y.task i = none ∧ limit < counted + (y.bay r).incoming + z.count := by
  obtain ⟨i, z, there, on, rest⟩ := h.trims.last some_
  exact ⟨i, z, (h.idle.task_put_iff on.1).mp there, on, rest⟩

theorem task_of_cut (there : s.task i = some z) (on : z.queuedAt r .pick) : y.task i = v.task i := by
  refine h.task_of_pick fun z' mid => ?_
  obtain ⟨y', here, kind, _⟩ := h.idle.origin i z' mid
  obtain rfl := Option.some.inj (there.symm.trans here)
  exact kind.trans on.1

theorem no_pick (none_ : ∀ i z, v.task i = some z → ¬ z.queuedAt r .pick) : ∀ i z, y.task i = some z → ¬ z.queuedAt r .pick := by
  intro i z there on
  rcases h.trims.task i with e | ⟨e, _⟩
  · exact none_ i z (e.symm.trans there) on
  · rw [e] at there; cases there

/-! Where no set is cut. -/

section Cuts

variable (cuts : CutsDown u v r counted n) (same : ∀ i, u.task i = s.task i)
include cuts same

theorem cut_eq : n = cutOf s y r := by
  refine cuts.sum.trans (congrArg List.sum (List.map_congr_left fun i _ => ?_))
  rw [same]
  cases there : s.task i with
  | none => rfl
  | some z =>
    by_cases on : z.kind = .pick ∧ z.state = .queued ∧ z.bay = r
    · simp only [if_pos on, h.task_of_cut there on]
    · simp only [if_neg on]

theorem pick_task (there : s.task i = some z) (on : z.queuedAt r .pick) (some_ : 1 ≤ z.count) : CutLeft z (y.task i) := by
  rw [h.task_of_cut there on]
  exact cuts.left ((same i).trans there) some_

theorem newest_pick (there : s.task i = some z) (on : z.queuedAt r .pick) (changed : y.task i ≠ some z) (j : Ticket) (w : Task)
    (here : s.task j = some w) (onw : w.queuedAt r .pick) (newer : z.stamp.toNat < w.stamp.toNat) : y.task j = none := by
  rw [h.task_of_cut there on] at changed
  rw [h.task_of_cut here onw]
  exact cuts.newest i z ((same i).trans there) on changed j w ((same j).trans here) onw newer

theorem other_task (there : s.task i = some z) (notPick : ¬ z.queuedAt r .pick) (notPut : ¬ z.queuedAt r .put) :
    y.task i = some z := by
  have mid : v.task i = some z := by
    rcases cuts.task i with e | ⟨z', here, on, _⟩
    · rw [e, same, there]
    · obtain rfl := Option.some.inj (there.symm.trans ((same i).symm.trans here))
      exact (notPick on).elim
  rcases h.trims.task i with e | ⟨_, z', here, on⟩
  · exact e.trans mid
  · obtain rfl := Option.some.inj (mid.symm.trans here)
    exact (notPut on).elim

end Cuts

end Adjustment

/-! ## The settled bay of a running phase -/

theorem settledAt_stackLimitOf : (s.settledAt c b x).stackLimitOf r = s.stackLimitOf r := by
  have cfg (d : CarouselId) : ((s.settledAt c b x).carousel d).cfg = (s.carousel d).cfg := by
    rw [State.settledAt, State.modPhaseBay, modCarousel_carousel]
    split
    · next own => rw [own]
    · rfl
  simp only [State.stackLimitOf, State.stackLimitFor, settledAt_bay, cfg]

/-- The phase of a carousel changes, and nothing else of it. -/
def Carousel.inPhase (f : Phase) (x : Carousel) : Carousel := { x with phase := some f }

theorem booked_inPhase (k : CarrierId) (b : BayId) (g : Bay → Bay) (x : Carousel) :
    (x.inPhase f).booked k b g = (x.booked k b g).inPhase f := rfl

theorem booked_settled (g : Bay → Bay) (own : r.carousel = c) :
    (s.modCarousel c (Carousel.inPhase f)).booked r g = (s.booked r g).modCarousel c (Carousel.inPhase f) := by
  subst own
  rw [State.booked, State.booked, modCarousel_modCarousel, modCarousel_modCarousel]
  exact modCarousel_congr _ _ (booked_inPhase ..)

theorem bookPosts_settled (g : Bay → Bay) (own : r.carousel = c) :
    (s.modCarousel c (Carousel.inPhase f)).bookPosts r g = s.bookPosts r g := by
  subst own
  simp only [State.bookPosts, modCarousel_carousel_self, booked_inPhase]
  rfl

end Adjusting

end Sys2Proof.Machine

/-! AUDIT_COUNT in an ADJUST phase as a whole (R69, R71, R139, R142). -/

namespace Sys2Proof.Machine

section Counting

variable {s u v y : State} {hd : Header} {i : Ticket} {c : CarouselId} {b : BayId} {f : Phase} {x : PhaseBay} {z : Task}
  {r : BayRef} {lot : Lot} {counted limit cut trimmed n : Nat} {p : Presentation}

/-! ## The parts of the statement -/

/-- An adjustment, as it stands once the count is closed. -/
theorem adjustBook_adjustment (idle : s.putsIdle) (sound : s.sound r .put)
    (fits : counted ≤ s.stackLimitOf r) :
    Adjustment s (s.cutAt r counted).1 (s.adjustBook r counted).state r counted (s.stackLimitOf r)
      (s.adjustBook r counted).trimmed :=
  ⟨cutAt_putsStay idle, adjustBook_trims idle sound fits⟩

theorem closedCount_incoming (e : EntryId) (record : DiscRecord) (q : BayRef) :
    ((v.closedCount r e record).bay q).incoming = (v.bay q).incoming := by
  rw [closedCount_bay]; split <;> rfl

theorem closedCount_reserved (e : EntryId) (record : DiscRecord) (q : BayRef) :
    ((v.closedCount r e record).bay q).reserved = (v.bay q).reserved := by
  rw [closedCount_bay]; split <;> rfl

/-- The promises and the put tasks of a state that agrees with the one at the start. -/
theorem PutsStay.of_agrees (stays : PutsStay u v) (bays : ∀ q, u.bay q = s.bay q) (tasks : ∀ i, u.task i = s.task i) :
    PutsStay s v where
  incoming q := (stays.incoming q).trans (congrArg Bay.incoming (bays q))
  origin i z there := by rw [← tasks]; exact stays.origin i z there
  puts i z there put_ := stays.puts i z ((tasks i).trans there) put_

theorem closedCount_inner_of (e : EntryId) (record : DiscRecord) (same : v.inner = y.inner) :
    (v.closedCount r e record).inner
      = { (y.setDisc e (.record record)).modBay r (fun b => { b with auditHold := false }) with
          discOrder := y.discOrder ++ [e] }.inner := by
  rw [closedCount_inner, same]; rfl

theorem adjustBook_cut_of_within (within : (s.bay r).reserved ≤ counted) : (s.adjustBook r counted).cut = 0 :=
  congrArg Prod.snd (cutAt_of_within within)

/-- What the rounds of an adjustment say of promises, tasks and tyres, from the state before it to the state after it. -/
theorem Adjustment.rounds (done : Adjustment s v y r counted limit trimmed)
    (unmatched : s.unmatchedAt r → CutsDown u v r counted cut) (same : ∀ i, u.task i = s.task i)
    (start : (u.bay r).reserved = (s.bay r).reserved) (pass : u.due.pass = false)
    (uncut : (s.bay r).reserved ≤ counted → cut = 0) (some_ : ∀ i z, s.task i = some z → 1 ≤ z.count) :
    (∀ q, q ≠ r → (y.bay q).incoming = (s.bay q).incoming)
      ∧ (∀ t z, s.task t = some z → z.queuedAt r .put → y.task t = none ∨ y.task t = some z)
      ∧ trimmed = trimmedOf s y r
      ∧ (y.bay r).incoming = (s.bay r).incoming - trimmed
      ∧ (counted + (y.bay r).incoming ≤ limit ∨ ∀ t z, y.task t = some z → ¬ z.queuedAt r .put)
      ∧ (∀ t z, s.task t = some z → z.queuedAt r .put → y.task t = none →
          ∀ j w, s.task j = some w → w.queuedAt r .put → y.task j = some w → w.stamp.toNat ≤ z.stamp.toNat)
      ∧ (counted + (s.bay r).incoming ≤ limit → trimmed = 0)
      ∧ (0 < trimmed → (s.bay r).incoming ≤ (y.bay r).incoming + trimmed → ∃ t z, s.task t = some z ∧ z.queuedAt r .put
          ∧ y.task t = none ∧ limit < counted + (y.bay r).incoming + z.count)
      ∧ ((s.bay r).reserved ≤ counted → cut = 0)
      ∧ (s.unmatchedAt r →
          y.due.pass = decide (0 < cut)
            ∧ (y.bay r).reserved = (s.bay r).reserved - cut ∧ cut ≤ (s.bay r).reserved - counted
            ∧ (cut = (s.bay r).reserved - counted ∨ ∀ t z, y.task t = some z → ¬ z.queuedAt r .pick)
            ∧ cut = cutOf s y r
            ∧ (∀ t z, s.task t = some z → z.queuedAt r .pick →
                y.task t = none ∨ ∃ w, y.task t = some w ∧ 0 < w.count ∧ w.count ≤ z.count ∧ w = { z with count := w.count })
            ∧ (∀ t z, s.task t = some z → z.queuedAt r .pick → y.task t ≠ some z →
                ∀ j w, s.task j = some w → w.queuedAt r .pick → z.stamp.toNat < w.stamp.toNat → y.task j = none)
            ∧ ∀ t z, s.task t = some z → ¬ z.queuedAt r .pick → ¬ z.queuedAt r .put → y.task t = some z) := by
  refine ⟨fun q other => (done.incoming q).trans (if_neg other), fun t z there put_ => done.put_task there put_.1, done.trimmed_eq,
    (done.incoming r).trans (if_pos rfl), done.ends, fun t z there put_ gone => done.newest there put_ gone, done.stays,
    fun pos _ => done.last pos, uncut, fun plain => ?_⟩
  have cuts := unmatched plain
  refine ⟨?_, ?_, ?_, ?_, done.cut_eq cuts same, fun t z there pick => ?_, fun t z there pick changed => done.newest_pick cuts same
    there pick changed, fun t z there => done.other_task cuts same there⟩
  · rw [done.trims.pass, cuts.pass, pass, Bool.false_or]
  · rw [done.trims.reserved, cuts.reserved, start]
  · rw [← start]; exact cuts.atMost
  · exact cuts.ends.imp (fun all => all.trans (by rw [start])) done.no_pick
  · rcases done.pick_task cuts same there pick (some_ t z there) with gone | ⟨m, pos, le, there⟩
    · exact .inl gone
    · exact .inr ⟨_, there, pos, le, rfl⟩

end Counting

/-- Settles O35: the count is written, picks are cut and puts trimmed in rounds, and the record closes the count. -/
theorem anAdjustedDiscrepancyWritesTheBook : Obligations.AnAdjustedDiscrepancyWritesTheBook := by
  refine ⟨fun r x lot counted s assigned differs fits => ?outcome, ?count, fun r counted fuel cut s => ?excess,
    fun t z w a s stands queued pick work unmatched few => ?one⟩
  case outcome =>
    intro y
    have eq : y = _ := takeOutcome_adjust assigned fits
    clear_value y
    subst eq
    obtain ⟨count, hold, disputed, others, discs, order, _⟩ := closedCount_adjusts (s := s) (r := r) (counted := counted) x.entry
      (s.adjustedRecord r x counted (s.adjustBook r counted).cut (s.adjustBook r counted).trimmed)
    refine ⟨count, hold, disputed, others, order, (s.adjustBook r counted).cut, (s.adjustBook r counted).trimmed, ?_⟩
    rw [← adjustedRecord_eq assigned, State.disc, discs, look_put_self]
  case excess =>
    refine ⟨cutExcess_of_within, fun above some_ => ?_⟩
    cases newest : newestTask? (s.queuedOnBay r .pick) with
    | none => exact (some_ (best?_eq_none.mp newest)).elim
    | some q =>
      obtain ⟨t, z⟩ := q
      obtain ⟨stands, pick, queued, on⟩ := mem_queuedOnBay_iff.mp (best?_mem newest)
      refine ⟨t, z, stands, pick, queued, on, fun young u v there kind state at_ => ?_, ?_⟩
      · refine newestTask?_newest (fun q mem => ?_) newest (u, v) (mem_queuedOnBay_iff.mpr ⟨there, kind, state, at_⟩)
        exact young q.1 q.2 (mem_queuedOnBay_iff.mp mem).1
      · simp only [State.cutExcess, if_neg (Nat.sub_ne_zero_of_lt above), newest]
  case one =>
    have once := cutTask_once (s := s) (i := t) (a := a) work unmatched
    refine ⟨?_, fun u other => (once.task u).trans (if_neg other), once.bay, fun l => ?_, once.ports, once.pass⟩
    · rw [once.task, if_pos rfl]
    · rw [once.lane, State.modWork, unmatched]; rfl
  case count =>
    intro h c b counted p f x lot st s ready station own bound face phase here open_ adjust differs seen another assigned fits r old
      limit on kind entry counts settled
    have final : x.attempt = 1 ∧ x.first = some counted ∨ 2 ≤ x.attempt := seen.imp id And.left
    have steady : decide (2 ≤ x.attempt ∧ x.first ≠ some counted ∧ x.second ≠ some counted) = false := by
      refine decide_eq_false ?_
      rintro ⟨third, first, second⟩
      rcases seen with ⟨_, same⟩ | ⟨_, same | same⟩
      · exact first same
      · exact first same
      · exact second same
    have runs := exec_auditCount_discrepancy ready station own bound face phase here open_ (judge_discrepancy differs final)
    rw [steady, adjust] at runs
    have bays (q : BayRef) : ((s.accepted h.port).settledAt c b x).bay q = s.bay q := settledAt_bay q
    have limits : ((s.accepted h.port).settledAt c b x).stackLimitOf r = limit := settledAt_stackLimitOf
    have at_ := settledAt_eq (s := s.accepted h.port) (b := b) (x := x) phase
    have port (q : PortId) : ((s.accepted h.port).settledAt c b x).port q = if q = h.port then (s.port q).taken else s.port q := by
      rw [at_]; exact accepted_port ..
    have frame : ((s.accepted h.port).settledAt c b x).discs = s.discs
        ∧ ((s.accepted h.port).settledAt c b x).discOrder = s.discOrder
        ∧ (∀ i, ((s.accepted h.port).settledAt c b x).task i = s.task i)
        ∧ ((s.accepted h.port).settledAt c b x).due = {} := by
      rw [at_]; exact ⟨rfl, rfl, fun _ => rfl, rfl⟩
    obtain ⟨discs, discOrder, tasks, due⟩ := frame
    have inner : ((s.accepted h.port).settledAt c b x).inner = (s.modCarousel c (Carousel.inPhase { f with bays := counts })).inner := by
      rw [at_, modCarousel_inner, accepted_inner]; rfl
    have posts (g : Bay → Bay) : ((s.accepted h.port).settledAt c b x).bookPosts r g = s.bookPosts r g := by
      rw [at_]
      exact bookPosts_settled (s := s.accepted h.port) (f := { f with bays := counts }) g rfl
    have phased : (((s.accepted h.port).settledAt c b x).carousel c).phase = some { f with bays := counts } := by
      rw [at_, modCarousel_carousel_self]; rfl
    rw [takeOutcome_adjust (lot := lot) (by rw [bays]; exact assigned) (by rw [limits]; exact fits)] at runs
    generalize (s.accepted h.port).settledAt c b x = u at *
    have record (cut trimmed : Nat) : u.adjustedRecord r x counted cut trimmed = entry cut trimmed :=
      adjustedRecord_eq (by rw [bays]; exact assigned) cut trimmed
    rw [record] at runs
    obtain ⟨count, hold, disputed, others, newDiscs, order, phases⟩ := closedCount_adjusts (s := u) (r := r) (counted := counted)
      x.entry (entry (u.adjustBook r counted).cut (u.adjustBook r counted).trimmed)
    have ongoing : ((u.adjustBook r counted).state.closedCount r x.entry
        (entry (u.adjustBook r counted).cut (u.adjustBook r counted).trimmed)).endPhaseIfSettled c = (u.adjustBook r counted).state.closedCount
          r x.entry (entry (u.adjustBook r counted).cut (u.adjustBook r counted).trimmed) := by
      refine endPhaseIfSettled_runs (f := f.write b (x.settle .discrepancy)) ((phases c).trans phased) ?_
      rw [Ne, write_unsettled_eq_nil_iff (by simp [PhaseBay.settle])]
      obtain ⟨d, z, other, there, more⟩ := another
      exact fun all => all d z other there more
    rw [ongoing] at runs
    refine ⟨_, (u.adjustBook r counted).cut, (u.adjustBook r counted).trimmed, runs, count, hold, ?_, fun q other => ?_, ?_, ?_,
      (phases c).trans phased, fun within room => ?within, fun good => ?rounds⟩
    · rw [disputed, bays]
    · rw [others q other, bays]
    · rw [newDiscs, discs]
    · rw [order, discOrder]
    case within =>
      intro g
      rw [adjustBook_of_within (by rw [bays]; exact within) (by rw [bays, limits]; exact room)]
      refine ⟨rfl, rfl, ?_, ?_, fun q => ?_⟩
      · rw [closedCount_due, State.countedAt, changeBay_due, due]
      · refine closedCount_inner_of x.entry _ (y := settled (s.booked r g)) ?_
        rw [State.countedAt, changeBay_inner, State.booked, modCarousel_inner, inner, ← modCarousel_inner, ← State.booked]
        exact congrArg State.inner (booked_settled (s := s) (r := r) (f := { f with bays := counts }) (counting counted) rfl)
      · rw [closedCount_port, State.countedAt, changeBay_port, port, posts, ← postsTo_append]
        rfl
    case rounds =>
      have idle : u.putsIdle := fun i z there put_ => (good i z ((tasks i).symm.trans there)).2.2 put_
      have sound (k : TaskKind) : u.sound r k := fun i z there _ => by
        obtain ⟨some_, young, _⟩ := good i z ((tasks i).symm.trans there)
        exact ⟨some_, young⟩
      have pass : u.due.pass = false := by rw [due]
      have left (within : old.reserved ≤ counted) : (u.adjustBook r counted).cut = 0 :=
        adjustBook_cut_of_within (by rw [bays]; exact within)
      have unmatched : (∀ t z, s.task t = some z → on .pick z → ∃ w, z.work = some w ∧ w.set = none) →
          CutsDown (u.countedAt r counted) (u.cutAt r counted).1 r counted (u.adjustBook r counted).cut := fun plain =>
        adjustBook_cutsDown (sound .pick) fun i z there => plain i z ((tasks i).symm.trans there)
      have same (i : Ticket) : (u.countedAt r counted).task i = s.task i := countedAt_task.trans (tasks i)
      have start : ((u.countedAt r counted).bay r).reserved = old.reserved := by rw [countedAt_reserved, bays]
      have startPass : (u.countedAt r counted).due.pass = false := countedAt_pass.trans pass
      obtain ⟨stays, trims⟩ := adjustBook_adjustment (s := u) (r := r) (counted := counted) idle (sound .put)
        (by rw [limits]; exact fits)
      rw [limits] at trims
      have done : Adjustment s (u.cutAt r counted).1 (u.adjustBook r counted).state r counted limit
        (u.adjustBook r counted).trimmed := ⟨stays.of_agrees bays tasks, trims⟩
      have rounds := done.rounds unmatched same start startPass left fun i z there => (good i z there).1
      simp only [closedCount_incoming, closedCount_reserved, closedCount_task, closedCount_due]
      revert rounds
      generalize u.adjustBook r counted = a
      exact fun rounds => rounds

end Sys2Proof.Machine
